-- ==== Sys2Proof/Word.lean ====
section
/-! DEFINITION. The two word types of the machine (00_scope.md R5): bytes and 16-bit words, unsigned. -/

namespace Sys2Proof

/-- A `u8`: opcodes, byte operands, memory bytes, display cells, Variant B registers. -/
abbrev Byte := BitVec 8

/-- A `u16`: addresses, word operands, `pc`, `I`, stack slots, Variant A registers. -/
abbrev Word := BitVec 16

end Sys2Proof
end

