-- ==== Sys2Proof/Machine/Bits.lean ====
section
/-! DEFINITION. Slices, concatenation and extension (00_scope.md R5), big-endian words (20_memory.md R70) and the
order of a sprite byte's pixels (20_memory.md R85). -/

namespace Sys2Proof

/-- `v[15:8]` (R5). -/
def hiByte (v : Word) : Byte :=
  v.extractLsb' 8 8

/-- `v[7:0]` (R5). -/
def loByte (v : Word) : Byte :=
  v.extractLsb' 0 8

/-- `hi ++ lo` (R5): the big-endian word of two bytes, the high byte first (R70). -/
def wordOf (hi lo : Byte) : Word :=
  hi ++ lo

/-- `zext_16(v)` (R5). -/
def zext16 (v : Byte) : Word :=
  v.setWidth 16

/-- `sext_16(v)` (R5): 0x80 to 0xFF are −128 to −1 (30_encoding.md R107). -/
def sext16 (v : Byte) : Word :=
  v.signExtend 16

/-- The eight bits of a sprite byte, most significant (leftmost) first (R85): `v[7], v[6], …, v[0]`. -/
def pixelsOf (v : Byte) : List Bool :=
  (List.range 8).map fun j => v.getLsbD (7 - j)

end Sys2Proof
end

