-- ==== Sys2Proof/Machine/Flags.lean ====
section
/-! DEFINITION. Sums, differences, shifts and the flags they set: Variant B (10_state.md R25, 42_b_load_alu.md R160)
and Variant A (10_state.md R26, 48_a_alu.md R271, R300). Every sum and difference is computed exactly on naturals and
narrowed at the end, as R5 asks. -/

namespace Sys2Proof.Machine

/-- What a write of F stores (R25): 0x01 or 0x00. -/
def flagByte (b : Bool) : Byte :=
  if b then 0x01 else 0x00

/-- `(a + b) mod 256` (R160). -/
def sum8 (a b : Byte) : Byte :=
  BitVec.ofNat 8 (a.toNat + b.toNat)

/-- The carry of an 8-bit sum: it exceeds 255 (R160). -/
def carry8 (a b : Byte) : Bool :=
  decide (a.toNat + b.toNat > 255)

/-- `(a - b) mod 256`, that is `(a + 256 - b) mod 256` (R154, R160). -/
def diff8 (a b : Byte) : Byte :=
  BitVec.ofNat 8 (a.toNat + 256 - b.toNat)

/-- The borrow of an 8-bit difference: `a < b` (R160). -/
def borrow8 (a b : Byte) : Bool :=
  decide (a.toNat < b.toNat)

/-- `v >> 1`, bit 7 becomes 0 (R155). -/
def shiftRight8 (v : Byte) : Byte :=
  v >>> 1

/-- `(v << 1) mod 256`, bit 0 becomes 0 (R159). -/
def shiftLeft8 (v : Byte) : Byte :=
  v <<< 1

/-- `v[0]`, the bit a right shift moves out (R155). -/
def lowBit8 (v : Byte) : Bool :=
  v.getLsbD 0

/-- `v[7]`, the bit a left shift moves out (R159). -/
def topBit8 (v : Byte) : Bool :=
  v.getLsbD 7

/-- `(a + m) mod 65536` (R284, R300). -/
def sum16 (a m : Word) : Word :=
  BitVec.ofNat 16 (a.toNat + m.toNat)

/-- The carry of a 16-bit sum: it exceeds 65535 (R284, R300). -/
def carry16 (a m : Word) : Bool :=
  decide (a.toNat + m.toNat > 65535)

/-- `(a - m) mod 65536`, that is `(a + 65536 - m) mod 65536` (R288, R300). -/
def diff16 (a m : Word) : Word :=
  BitVec.ofNat 16 (a.toNat + 65536 - m.toNat)

/-- The borrow of a 16-bit difference: `a < m` (R288, R300). -/
def borrow16 (a m : Word) : Bool :=
  decide (a.toNat < m.toNat)

/-- `v[0]`, the bit a right shift or rotate moves out (R297, R299). -/
def lowBit16 (v : Word) : Bool :=
  v.getLsbD 0

/-- `v[15]`: the bit a left shift or rotate moves out (R296, R298), and the sign bit that N shows (R271). -/
def topBit16 (v : Word) : Bool :=
  v.getLsbD 15

/-- `(v << 1) mod 65536`, bit 0 becomes 0 (R296). -/
def shiftLeft16 (v : Word) : Word :=
  v <<< 1

/-- `v >> 1`, bit 15 becomes 0 (R297). -/
def shiftRight16 (v : Word) : Word :=
  v >>> 1

/-- `zext_16` of a one-bit flag. -/
def flagWord (b : Bool) : Word :=
  if b then 0x0001 else 0x0000

/-- `((v << 1) mod 65536) OR zext_16(C)`: the old carry enters bit 0 (R298). -/
def rotateLeft16 (v : Word) (carry : Bool) : Word :=
  shiftLeft16 v ||| flagWord carry

/-- `(v >> 1) OR (zext_16(C) << 15)`: the old carry enters bit 15 (R299). -/
def rotateRight16 (v : Word) (carry : Bool) : Word :=
  shiftRight16 v ||| (flagWord carry <<< 15)

/-- The zero test of R271. -/
def isZero16 (v : Word) : Bool :=
  v == 0x0000

end Sys2Proof.Machine
end

