-- ==== Sys2Proof/Config.lean ====
section
/-! DEFINITION. What the builder of the hardware fixes (00_scope.md R4), the form of the environment's inputs to a
cycle (44_b_timer_key.md R185, 60_exceptions.md R322, R323, 70_reset_and_hazards.md R347), and the one free value of
the model. -/

namespace Sys2Proof

/-- `VARIANT` (R4): the byte-register instruction set B (primary) or the word-register instruction set A. -/
inductive Variant where
  | b
  | a
  deriving DecidableEq, Repr, Inhabited

/-- `WRITE_WORD_TOP` (R4, R65): what a word write at address 0xFFFF does. -/
inductive WordTop where
  | reject
  | highOnly
  | wrap
  deriving DecidableEq, Repr, Inhabited

/-- The build parameters of R4. Fixed when the hardware is built: no step changes them. -/
structure Params where
  /-- `VARIANT` -/
  variant : Variant
  /-- `W`, the display width -/
  width : Nat
  /-- `H`, the display height -/
  height : Nat
  /-- `PIXEL_ON`, the value a toggled-on cell holds -/
  pixelOn : Byte
  /-- `WRITE_WORD_TOP` -/
  wordTop : WordTop
  deriving DecidableEq, Repr

/-- The default of every parameter (R4; 92_eei_decisions.md D1, D7, D10, D29). -/
def Params.default : Params where
  variant := .b
  width := 64
  height := 32
  pixelOn := 0x01
  wordTop := .reject

/-- The legal parameters (R4): `W, H ≥ 1` and `PIXEL_ON ≠ 0`. -/
abbrev Params.wf (p : Params) : Prop :=
  1 ≤ p.width ∧ 1 ≤ p.height ∧ p.pixelOn ≠ 0

/-- One call of the display port by the host (20_memory.md R82 to R85; 70_reset_and_hazards.md R347), enabled at any
time and atomic. -/
inductive DisplayMove where
  /-- `set_pixel(x, y)` (R82) -/
  | setPixel (x y : Nat)
  /-- `set_pixel(x, y, color)` (R83) -/
  | setPixelColor (x y : Nat) (color : Byte)
  /-- `clear()` (R84) -/
  | clear
  /-- `draw_sprite(bytes, x, y)` (R85) -/
  | drawSprite (bytes : List Byte) (x y : Nat)
  deriving DecidableEq, Repr, Inhabited

/-- What the environment supplies to one cycle, chosen under no law (R185, R322, R323): the 60 Hz periods that ended
since the previous sample, the keyboard's two answers, and the host's display calls that fall between the previous cycle
and this one, each a step of its own (assumption 5). A cycle asks each of the keyboard's questions at most once. -/
structure Input where
  /-- the draw `ticks` of R185 -/
  ticks : Nat
  /-- the key codes `KeyDown` answers true for -/
  keysDown : List Byte
  /-- the answer of `NextKey` -/
  nextKey : Option Byte
  /-- display calls of the host still to be made before this cycle, in order -/
  displayMoves : List DisplayMove
  deriving DecidableEq, Repr, Inhabited

/-- FREE VALUE (assumption 3): the environment's sample for the cycle numbered `n`, where `State.inputs` lists none.
It has no body: nothing can be proved of its value, as R185 and R322 ask ("chosen by the environment under no law"). -/
opaque Config.freeInput : Nat → Input

end Sys2Proof
end

