-- ==== Sys2Proof/Syntax.lean ====
section
/-! DEFINITION. The instructions: one constructor per row of spec/opcode_table.json, 41 of Variant B (30_encoding.md
R104; names that begin with `b`) and 70 of Variant A (R105; names that begin with `a`). Operands are as R107 assembles
them: a byte or a word, unscaled and not extended; registers are fixed by the constructor (R101, R103). -/

namespace Sys2Proof

inductive Instr where
  /-- `JP addr16`, 0x10 (R120) -/
  | bJp (addr : Word)
  /-- `CALL addr16`, 0x20 (R121) -/
  | bCall (addr : Word)
  /-- `SE Rx, imm8`, 0x30 (R131) -/
  | bSeRxImm (imm : Byte)
  /-- `SE Ry, imm8`, 0x31 (R132) -/
  | bSeRyImm (imm : Byte)
  /-- `SNE Rx, imm8`, 0x40 (R133) -/
  | bSneRxImm (imm : Byte)
  /-- `SNE Ry, imm8`, 0x41 (R134) -/
  | bSneRyImm (imm : Byte)
  /-- `SE Rx, Ry`, 0x50 (R135) -/
  | bSeRxRy
  /-- `LD Rx, imm8`, 0x60 (R145) -/
  | bLdRxImm (imm : Byte)
  /-- `LD Ry, imm8`, 0x61 (R146) -/
  | bLdRyImm (imm : Byte)
  /-- `ADD Rx, imm8`, 0x70 (R147) -/
  | bAddRxImm (imm : Byte)
  /-- `ADD Ry, imm8`, 0x71 (R148) -/
  | bAddRyImm (imm : Byte)
  /-- `LD Rx, Ry`, 0x80 (R149) -/
  | bLdRxRy
  /-- `OR Rx, Ry`, 0x81 (R150) -/
  | bOr
  /-- `AND Rx, Ry`, 0x82 (R151) -/
  | bAnd
  /-- `XOR Rx, Ry`, 0x83 (R152) -/
  | bXor
  /-- `ADD Rx, Ry`, 0x84 (R153) -/
  | bAddRxRy
  /-- `SUB Rx, Ry`, 0x85 (R154) -/
  | bSub
  /-- `SHR Rx`, 0x86 (R155) -/
  | bShr
  /-- `SUBN Rx, Ry`, 0x87 (R156) -/
  | bSubn
  /-- `LD Ry, Rx`, 0x88 (R157) -/
  | bLdRyRx
  /-- `LD Rx, F`, 0x89 (R158) -/
  | bLdRxF
  /-- `SHL Rx`, 0x8E (R159) -/
  | bShl
  /-- `SNE Rx, Ry`, 0x90 (R136) -/
  | bSneRxRy
  /-- `LD I, addr16`, 0xA0 (R170) -/
  | bLdI (addr : Word)
  /-- `EXIT`, 0xAA (R123) -/
  | bExit
  /-- `JP Rx, addr16`, 0xB0 (R122) -/
  | bJpRx (addr : Word)
  /-- `DRW n8`, 0xD0 (R196) -/
  | bDrw (n : Byte)
  /-- `CLS`, 0xE0 (R195) -/
  | bCls
  /-- `SKP Rx`, 0xE9 (R137) -/
  | bSkp
  /-- `SKNP Rx`, 0xEA (R138) -/
  | bSknp
  /-- `RET`, 0xEE (R124) -/
  | bRet
  /-- `LD [I], Rx`, 0xF0 (R172) -/
  | bLdMemRx
  /-- `LD [I], Ry`, 0xF1 (R173) -/
  | bLdMemRy
  /-- `LD Rx, [I]`, 0xF2 (R174) -/
  | bLdRxMem
  /-- `BCD Rx`, 0xF3 (R177) -/
  | bBcd
  /-- `LD Ry, [I]`, 0xF4 (R175) -/
  | bLdRyMem
  /-- `LD DT, Rx`, 0xF5 (R187) -/
  | bLdDtRx
  /-- `LD Rx, DT`, 0xF7 (R186) -/
  | bLdRxDt
  /-- `LD ST, Rx`, 0xF8 (R188) -/
  | bLdStRx
  /-- `LD Rx, K`, 0xFA (R189) -/
  | bLdRxK
  /-- `ADD I, Rx`, 0xFE (R171) -/
  | bAddIRx
  /-- `INT`, 0x00 (R200) -/
  | aInt
  /-- `HLT`, 0x01 (R201) -/
  | aHlt
  /-- `NOP`, 0x02 (R202) -/
  | aNop
  /-- `LDA #imm16`, 0x03 (R203) -/
  | aLdaImm (imm : Word)
  /-- `LDX #imm16`, 0x04 (R204) -/
  | aLdxImm (imm : Word)
  /-- `LDY #imm16`, 0x05 (R205) -/
  | aLdyImm (imm : Word)
  /-- `LDI #imm16`, 0x06 (R206) -/
  | aLdiImm (imm : Word)
  /-- `LDA (I)`, 0x07 (R207) -/
  | aLdaMem
  /-- `LDX (I)`, 0x08 (R208) -/
  | aLdxMem
  /-- `LDY (I)`, 0x09 (R209) -/
  | aLdyMem
  /-- `STA (I)`, 0x0A (R210) -/
  | aStaMem
  /-- `STX (I)`, 0x0B (R211) -/
  | aStxMem
  /-- `STY (I)`, 0x0C (R212) -/
  | aStyMem
  /-- `TAX`, 0x10 (R213) -/
  | aTax
  /-- `TAY`, 0x11 (R214) -/
  | aTay
  /-- `TAI`, 0x12 (R215) -/
  | aTai
  /-- `TXA`, 0x13 (R216) -/
  | aTxa
  /-- `TXY`, 0x14 (R217) -/
  | aTxy
  /-- `TXI`, 0x15 (R218) -/
  | aTxi
  /-- `TYA`, 0x16 (R219) -/
  | aTya
  /-- `TYX`, 0x17 (R220) -/
  | aTyx
  /-- `TYI`, 0x18 (R221) -/
  | aTyi
  /-- `TIA`, 0x19 (R222) -/
  | aTia
  /-- `TIX`, 0x1A (R223) -/
  | aTix
  /-- `TIY`, 0x1B (R224) -/
  | aTiy
  /-- `JMP addr16`, 0x20 (R240) -/
  | aJmp (addr : Word)
  /-- `JMP (I)`, 0x21 (R241) -/
  | aJmpI
  /-- `CALL addr16`, 0x22 (R242) -/
  | aCall (addr : Word)
  /-- `CALL (I)`, 0x23 (R243) -/
  | aCallI
  /-- `RET`, 0x24 (R244) -/
  | aRet
  /-- `AND #imm16`, 0x30 (R272) -/
  | aAndImm (imm : Word)
  /-- `AND (I)`, 0x31 (R273) -/
  | aAndMem
  /-- `AND X`, 0x32 (R274) -/
  | aAndX
  /-- `AND Y`, 0x33 (R275) -/
  | aAndY
  /-- `OR #imm16`, 0x34 (R276) -/
  | aOrImm (imm : Word)
  /-- `OR (I)`, 0x35 (R277) -/
  | aOrMem
  /-- `OR X`, 0x36 (R278) -/
  | aOrX
  /-- `OR Y`, 0x37 (R279) -/
  | aOrY
  /-- `XOR #imm16`, 0x38 (R280) -/
  | aXorImm (imm : Word)
  /-- `XOR (I)`, 0x39 (R281) -/
  | aXorMem
  /-- `XOR X`, 0x3A (R282) -/
  | aXorX
  /-- `XOR Y`, 0x3B (R283) -/
  | aXorY
  /-- `ADD #imm16`, 0x40 (R284) -/
  | aAddImm (imm : Word)
  /-- `ADD (I)`, 0x41 (R285) -/
  | aAddMem
  /-- `ADD X`, 0x42 (R286) -/
  | aAddX
  /-- `ADD Y`, 0x43 (R287) -/
  | aAddY
  /-- `SUB #imm16`, 0x44 (R288) -/
  | aSubImm (imm : Word)
  /-- `SUB (I)`, 0x45 (R289) -/
  | aSubMem
  /-- `SUB X`, 0x46 (R290) -/
  | aSubX
  /-- `SUB Y`, 0x47 (R291) -/
  | aSubY
  /-- `CMP #imm16`, 0x48 (R292) -/
  | aCmpImm (imm : Word)
  /-- `CMP (I)`, 0x49 (R293) -/
  | aCmpMem
  /-- `CMP X`, 0x4A (R294) -/
  | aCmpX
  /-- `CMP Y`, 0x4B (R295) -/
  | aCmpY
  /-- `SHL`, 0x4C (R296) -/
  | aShl
  /-- `SHR`, 0x4D (R297) -/
  | aShr
  /-- `ROL`, 0x4E (R298) -/
  | aRol
  /-- `ROR`, 0x4F (R299) -/
  | aRor
  /-- `BCS (I)`, 0x50 (R246) -/
  | aBcsI
  /-- `BCS rel8`, 0x51 (R247) -/
  | aBcsRel (rel : Byte)
  /-- `BCC (I)`, 0x52 (R248) -/
  | aBccI
  /-- `BCC rel8`, 0x53 (R249) -/
  | aBccRel (rel : Byte)
  /-- `BNS (I)`, 0x54 (R250) -/
  | aBnsI
  /-- `BNS rel8`, 0x55 (R251) -/
  | aBnsRel (rel : Byte)
  /-- `BNC (I)`, 0x56 (R252) -/
  | aBncI
  /-- `BNC rel8`, 0x57 (R253) -/
  | aBncRel (rel : Byte)
  /-- `BZS (I)`, 0x58 (R254) -/
  | aBzsI
  /-- `BZS rel8`, 0x59 (R255) -/
  | aBzsRel (rel : Byte)
  /-- `BZC (I)`, 0x5A (R256) -/
  | aBzcI
  /-- `BZC rel8`, 0x5B (R257) -/
  | aBzcRel (rel : Byte)
  deriving DecidableEq, Repr

end Sys2Proof
end

