-- ==== Sys2Proof/WellFormed.lean ====
section
/-! DEFINITION. Which instructions a build of the hardware has: those of its variant (00_scope.md R4, R7;
30_encoding.md R104, R105). Every value of every operand is legal (R107), so this is the only check. -/

namespace Sys2Proof

/-- The variant whose table holds the instruction (R104, R105). -/
def Instr.variant : Instr → Variant
  | .bJp _ => .b
  | .bCall _ => .b
  | .bSeRxImm _ => .b
  | .bSeRyImm _ => .b
  | .bSneRxImm _ => .b
  | .bSneRyImm _ => .b
  | .bSeRxRy => .b
  | .bLdRxImm _ => .b
  | .bLdRyImm _ => .b
  | .bAddRxImm _ => .b
  | .bAddRyImm _ => .b
  | .bLdRxRy => .b
  | .bOr => .b
  | .bAnd => .b
  | .bXor => .b
  | .bAddRxRy => .b
  | .bSub => .b
  | .bShr => .b
  | .bSubn => .b
  | .bLdRyRx => .b
  | .bLdRxF => .b
  | .bShl => .b
  | .bSneRxRy => .b
  | .bLdI _ => .b
  | .bExit => .b
  | .bJpRx _ => .b
  | .bDrw _ => .b
  | .bCls => .b
  | .bSkp => .b
  | .bSknp => .b
  | .bRet => .b
  | .bLdMemRx => .b
  | .bLdMemRy => .b
  | .bLdRxMem => .b
  | .bBcd => .b
  | .bLdRyMem => .b
  | .bLdDtRx => .b
  | .bLdRxDt => .b
  | .bLdStRx => .b
  | .bLdRxK => .b
  | .bAddIRx => .b
  | .aInt => .a
  | .aHlt => .a
  | .aNop => .a
  | .aLdaImm _ => .a
  | .aLdxImm _ => .a
  | .aLdyImm _ => .a
  | .aLdiImm _ => .a
  | .aLdaMem => .a
  | .aLdxMem => .a
  | .aLdyMem => .a
  | .aStaMem => .a
  | .aStxMem => .a
  | .aStyMem => .a
  | .aTax => .a
  | .aTay => .a
  | .aTai => .a
  | .aTxa => .a
  | .aTxy => .a
  | .aTxi => .a
  | .aTya => .a
  | .aTyx => .a
  | .aTyi => .a
  | .aTia => .a
  | .aTix => .a
  | .aTiy => .a
  | .aJmp _ => .a
  | .aJmpI => .a
  | .aCall _ => .a
  | .aCallI => .a
  | .aRet => .a
  | .aAndImm _ => .a
  | .aAndMem => .a
  | .aAndX => .a
  | .aAndY => .a
  | .aOrImm _ => .a
  | .aOrMem => .a
  | .aOrX => .a
  | .aOrY => .a
  | .aXorImm _ => .a
  | .aXorMem => .a
  | .aXorX => .a
  | .aXorY => .a
  | .aAddImm _ => .a
  | .aAddMem => .a
  | .aAddX => .a
  | .aAddY => .a
  | .aSubImm _ => .a
  | .aSubMem => .a
  | .aSubX => .a
  | .aSubY => .a
  | .aCmpImm _ => .a
  | .aCmpMem => .a
  | .aCmpX => .a
  | .aCmpY => .a
  | .aShl => .a
  | .aShr => .a
  | .aRol => .a
  | .aRor => .a
  | .aBcsI => .a
  | .aBcsRel _ => .a
  | .aBccI => .a
  | .aBccRel _ => .a
  | .aBnsI => .a
  | .aBnsRel _ => .a
  | .aBncI => .a
  | .aBncRel _ => .a
  | .aBzsI => .a
  | .aBzsRel _ => .a
  | .aBzcI => .a
  | .aBzcRel _ => .a

/-- The instruction is one of the variant's table. -/
abbrev Instr.wellFormed (v : Variant) (i : Instr) : Bool :=
  i.variant == v

end Sys2Proof
end

