-- ==== Sys2Proof/Decode.lean ====
section
/-! DEFINITION. The two opcode tables as data (30_encoding.md R104, R105), instruction length (R106), the decoder
(R100, R102, R107 to R109), the encoder, and the host's view of the decoder (`decodeTableWord`). -/

namespace Sys2Proof

/-- A row's format (R100) with the instruction it builds from the operand: `OP`, `OP8`, `OP16`. -/
inductive Shape where
  | op (i : Instr)
  | op8 (build : Byte → Instr)
  | op16 (build : Word → Instr)

/-- Instruction length in bytes by format (R100). -/
def Shape.length : Shape → Nat
  | .op _ => 1
  | .op8 _ => 2
  | .op16 _ => 3

/-- R104, opcodes 0x10 to 0x31. -/
def tableB0 : List (Byte × Shape) :=
  [(0x10, .op16 Instr.bJp),
   (0x20, .op16 Instr.bCall),
   (0x30, .op8 Instr.bSeRxImm),
   (0x31, .op8 Instr.bSeRyImm)]

/-- R104, opcodes 0x40 to 0x71. -/
def tableB1 : List (Byte × Shape) :=
  [(0x40, .op8 Instr.bSneRxImm),
   (0x41, .op8 Instr.bSneRyImm),
   (0x50, .op .bSeRxRy),
   (0x60, .op8 Instr.bLdRxImm),
   (0x61, .op8 Instr.bLdRyImm),
   (0x70, .op8 Instr.bAddRxImm),
   (0x71, .op8 Instr.bAddRyImm)]

/-- R104, opcodes 0x80 to 0xB0. -/
def tableB2 : List (Byte × Shape) :=
  [(0x80, .op .bLdRxRy),
   (0x81, .op .bOr),
   (0x82, .op .bAnd),
   (0x83, .op .bXor),
   (0x84, .op .bAddRxRy),
   (0x85, .op .bSub),
   (0x86, .op .bShr),
   (0x87, .op .bSubn),
   (0x88, .op .bLdRyRx),
   (0x89, .op .bLdRxF),
   (0x8E, .op .bShl),
   (0x90, .op .bSneRxRy),
   (0xA0, .op16 Instr.bLdI),
   (0xAA, .op .bExit),
   (0xB0, .op16 Instr.bJpRx)]

/-- R104, opcodes 0xD0 to 0xFE. -/
def tableB3 : List (Byte × Shape) :=
  [(0xD0, .op8 Instr.bDrw),
   (0xE0, .op .bCls),
   (0xE9, .op .bSkp),
   (0xEA, .op .bSknp),
   (0xEE, .op .bRet),
   (0xF0, .op .bLdMemRx),
   (0xF1, .op .bLdMemRy),
   (0xF2, .op .bLdRxMem),
   (0xF3, .op .bBcd),
   (0xF4, .op .bLdRyMem),
   (0xF5, .op .bLdDtRx),
   (0xF7, .op .bLdRxDt),
   (0xF8, .op .bLdStRx),
   (0xFA, .op .bLdRxK),
   (0xFE, .op .bAddIRx)]

/-- The Variant B opcode table (R104), 41 rows. -/
def tableB : List (Byte × Shape) :=
  tableB0 ++ tableB1 ++ tableB2 ++ tableB3

/-- R105, opcodes 0x00 to 0x0C. -/
def tableA0 : List (Byte × Shape) :=
  [(0x00, .op .aInt),
   (0x01, .op .aHlt),
   (0x02, .op .aNop),
   (0x03, .op16 Instr.aLdaImm),
   (0x04, .op16 Instr.aLdxImm),
   (0x05, .op16 Instr.aLdyImm),
   (0x06, .op16 Instr.aLdiImm),
   (0x07, .op .aLdaMem),
   (0x08, .op .aLdxMem),
   (0x09, .op .aLdyMem),
   (0x0A, .op .aStaMem),
   (0x0B, .op .aStxMem),
   (0x0C, .op .aStyMem)]

/-- R105, opcodes 0x10 to 0x1B. -/
def tableA1 : List (Byte × Shape) :=
  [(0x10, .op .aTax),
   (0x11, .op .aTay),
   (0x12, .op .aTai),
   (0x13, .op .aTxa),
   (0x14, .op .aTxy),
   (0x15, .op .aTxi),
   (0x16, .op .aTya),
   (0x17, .op .aTyx),
   (0x18, .op .aTyi),
   (0x19, .op .aTia),
   (0x1A, .op .aTix),
   (0x1B, .op .aTiy)]

/-- R105, opcodes 0x20 to 0x24. -/
def tableA2 : List (Byte × Shape) :=
  [(0x20, .op16 Instr.aJmp),
   (0x21, .op .aJmpI),
   (0x22, .op16 Instr.aCall),
   (0x23, .op .aCallI),
   (0x24, .op .aRet)]

/-- R105, opcodes 0x30 to 0x3B. -/
def tableA3 : List (Byte × Shape) :=
  [(0x30, .op16 Instr.aAndImm),
   (0x31, .op .aAndMem),
   (0x32, .op .aAndX),
   (0x33, .op .aAndY),
   (0x34, .op16 Instr.aOrImm),
   (0x35, .op .aOrMem),
   (0x36, .op .aOrX),
   (0x37, .op .aOrY),
   (0x38, .op16 Instr.aXorImm),
   (0x39, .op .aXorMem),
   (0x3A, .op .aXorX),
   (0x3B, .op .aXorY)]

/-- R105, opcodes 0x40 to 0x4F. -/
def tableA4 : List (Byte × Shape) :=
  [(0x40, .op16 Instr.aAddImm),
   (0x41, .op .aAddMem),
   (0x42, .op .aAddX),
   (0x43, .op .aAddY),
   (0x44, .op16 Instr.aSubImm),
   (0x45, .op .aSubMem),
   (0x46, .op .aSubX),
   (0x47, .op .aSubY),
   (0x48, .op16 Instr.aCmpImm),
   (0x49, .op .aCmpMem),
   (0x4A, .op .aCmpX),
   (0x4B, .op .aCmpY),
   (0x4C, .op .aShl),
   (0x4D, .op .aShr),
   (0x4E, .op .aRol),
   (0x4F, .op .aRor)]

/-- R105, opcodes 0x50 to 0x5B. -/
def tableA5 : List (Byte × Shape) :=
  [(0x50, .op .aBcsI),
   (0x51, .op8 Instr.aBcsRel),
   (0x52, .op .aBccI),
   (0x53, .op8 Instr.aBccRel),
   (0x54, .op .aBnsI),
   (0x55, .op8 Instr.aBnsRel),
   (0x56, .op .aBncI),
   (0x57, .op8 Instr.aBncRel),
   (0x58, .op .aBzsI),
   (0x59, .op8 Instr.aBzsRel),
   (0x5A, .op .aBzcI),
   (0x5B, .op8 Instr.aBzcRel)]

/-- The Variant A opcode table (R105), 70 rows. -/
def tableA : List (Byte × Shape) :=
  tableA0 ++ tableA1 ++ tableA2 ++ tableA3 ++ tableA4 ++ tableA5

/-- The variant's opcode table. -/
def opcodeTable : Variant → List (Byte × Shape)
  | .b => tableB
  | .a => tableA

/-- The row of the opcode byte, or none: the opcode is unassigned (R108). The mask is 0xFF for every row. -/
def opcodeRow (v : Variant) (op : Byte) : Option Shape :=
  (opcodeTable v).lookup op

/-- `Len(op)` (R106): 3, 2 or 1 by format, and 1 for an unassigned opcode. -/
def lenOf (v : Variant) (op : Byte) : Nat :=
  match opcodeRow v op with
  | some shape => shape.length
  | none => 1

/-- Why a byte string does not begin with a whole instruction. -/
inductive DecodeError where
  /-- the opcode byte has no row in the variant's table (R108); on the machine a one-byte no-op, not a fault (R313) -/
  | unassigned (op : Byte)
  /-- the string ends before the instruction does; the fetch of the machine never meets it -/
  | truncated
  deriving DecidableEq, Repr

/-- Decoding (R100, R107, R109): the instruction at the head of a byte string, with the bytes after it. A word operand
is big-endian. -/
def decode (v : Variant) : List Byte → Except DecodeError (Instr × List Byte)
  | [] => .error .truncated
  | op :: bytes =>
    match opcodeRow v op, bytes with
    | none, _ => .error (.unassigned op)
    | some (.op i), rest => .ok (i, rest)
    | some (.op8 build), b1 :: rest => .ok (build b1, rest)
    | some (.op16 build), b1 :: b2 :: rest => .ok (build (wordOf b1 b2), rest)
    | some _, _ => .error .truncated

/-- The opcode byte of an instruction, written from R104 and R105 row by row. -/
def opcodeOf : Instr → Byte
  | .bJp _ => 0x10
  | .bCall _ => 0x20
  | .bSeRxImm _ => 0x30
  | .bSeRyImm _ => 0x31
  | .bSneRxImm _ => 0x40
  | .bSneRyImm _ => 0x41
  | .bSeRxRy => 0x50
  | .bLdRxImm _ => 0x60
  | .bLdRyImm _ => 0x61
  | .bAddRxImm _ => 0x70
  | .bAddRyImm _ => 0x71
  | .bLdRxRy => 0x80
  | .bOr => 0x81
  | .bAnd => 0x82
  | .bXor => 0x83
  | .bAddRxRy => 0x84
  | .bSub => 0x85
  | .bShr => 0x86
  | .bSubn => 0x87
  | .bLdRyRx => 0x88
  | .bLdRxF => 0x89
  | .bShl => 0x8E
  | .bSneRxRy => 0x90
  | .bLdI _ => 0xA0
  | .bExit => 0xAA
  | .bJpRx _ => 0xB0
  | .bDrw _ => 0xD0
  | .bCls => 0xE0
  | .bSkp => 0xE9
  | .bSknp => 0xEA
  | .bRet => 0xEE
  | .bLdMemRx => 0xF0
  | .bLdMemRy => 0xF1
  | .bLdRxMem => 0xF2
  | .bBcd => 0xF3
  | .bLdRyMem => 0xF4
  | .bLdDtRx => 0xF5
  | .bLdRxDt => 0xF7
  | .bLdStRx => 0xF8
  | .bLdRxK => 0xFA
  | .bAddIRx => 0xFE
  | .aInt => 0x00
  | .aHlt => 0x01
  | .aNop => 0x02
  | .aLdaImm _ => 0x03
  | .aLdxImm _ => 0x04
  | .aLdyImm _ => 0x05
  | .aLdiImm _ => 0x06
  | .aLdaMem => 0x07
  | .aLdxMem => 0x08
  | .aLdyMem => 0x09
  | .aStaMem => 0x0A
  | .aStxMem => 0x0B
  | .aStyMem => 0x0C
  | .aTax => 0x10
  | .aTay => 0x11
  | .aTai => 0x12
  | .aTxa => 0x13
  | .aTxy => 0x14
  | .aTxi => 0x15
  | .aTya => 0x16
  | .aTyx => 0x17
  | .aTyi => 0x18
  | .aTia => 0x19
  | .aTix => 0x1A
  | .aTiy => 0x1B
  | .aJmp _ => 0x20
  | .aJmpI => 0x21
  | .aCall _ => 0x22
  | .aCallI => 0x23
  | .aRet => 0x24
  | .aAndImm _ => 0x30
  | .aAndMem => 0x31
  | .aAndX => 0x32
  | .aAndY => 0x33
  | .aOrImm _ => 0x34
  | .aOrMem => 0x35
  | .aOrX => 0x36
  | .aOrY => 0x37
  | .aXorImm _ => 0x38
  | .aXorMem => 0x39
  | .aXorX => 0x3A
  | .aXorY => 0x3B
  | .aAddImm _ => 0x40
  | .aAddMem => 0x41
  | .aAddX => 0x42
  | .aAddY => 0x43
  | .aSubImm _ => 0x44
  | .aSubMem => 0x45
  | .aSubX => 0x46
  | .aSubY => 0x47
  | .aCmpImm _ => 0x48
  | .aCmpMem => 0x49
  | .aCmpX => 0x4A
  | .aCmpY => 0x4B
  | .aShl => 0x4C
  | .aShr => 0x4D
  | .aRol => 0x4E
  | .aRor => 0x4F
  | .aBcsI => 0x50
  | .aBcsRel _ => 0x51
  | .aBccI => 0x52
  | .aBccRel _ => 0x53
  | .aBnsI => 0x54
  | .aBnsRel _ => 0x55
  | .aBncI => 0x56
  | .aBncRel _ => 0x57
  | .aBzsI => 0x58
  | .aBzsRel _ => 0x59
  | .aBzcI => 0x5A
  | .aBzcRel _ => 0x5B

/-- The operand bytes of an instruction (R107): none, one byte, or a word with its high byte first. -/
def operandBytes : Instr → List Byte
  | .bJp addr => [hiByte addr, loByte addr]
  | .bCall addr => [hiByte addr, loByte addr]
  | .bLdI addr => [hiByte addr, loByte addr]
  | .bJpRx addr => [hiByte addr, loByte addr]
  | .aLdaImm imm => [hiByte imm, loByte imm]
  | .aLdxImm imm => [hiByte imm, loByte imm]
  | .aLdyImm imm => [hiByte imm, loByte imm]
  | .aLdiImm imm => [hiByte imm, loByte imm]
  | .aJmp addr => [hiByte addr, loByte addr]
  | .aCall addr => [hiByte addr, loByte addr]
  | .aAndImm imm => [hiByte imm, loByte imm]
  | .aOrImm imm => [hiByte imm, loByte imm]
  | .aXorImm imm => [hiByte imm, loByte imm]
  | .aAddImm imm => [hiByte imm, loByte imm]
  | .aSubImm imm => [hiByte imm, loByte imm]
  | .aCmpImm imm => [hiByte imm, loByte imm]
  | .bSeRxImm imm => [imm]
  | .bSeRyImm imm => [imm]
  | .bSneRxImm imm => [imm]
  | .bSneRyImm imm => [imm]
  | .bLdRxImm imm => [imm]
  | .bLdRyImm imm => [imm]
  | .bAddRxImm imm => [imm]
  | .bAddRyImm imm => [imm]
  | .bDrw n => [n]
  | .aBcsRel rel => [rel]
  | .aBccRel rel => [rel]
  | .aBnsRel rel => [rel]
  | .aBncRel rel => [rel]
  | .aBzsRel rel => [rel]
  | .aBzcRel rel => [rel]
  | .bSeRxRy => []
  | .bLdRxRy => []
  | .bOr => []
  | .bAnd => []
  | .bXor => []
  | .bAddRxRy => []
  | .bSub => []
  | .bShr => []
  | .bSubn => []
  | .bLdRyRx => []
  | .bLdRxF => []
  | .bShl => []
  | .bSneRxRy => []
  | .bExit => []
  | .bCls => []
  | .bSkp => []
  | .bSknp => []
  | .bRet => []
  | .bLdMemRx => []
  | .bLdMemRy => []
  | .bLdRxMem => []
  | .bBcd => []
  | .bLdRyMem => []
  | .bLdDtRx => []
  | .bLdRxDt => []
  | .bLdStRx => []
  | .bLdRxK => []
  | .bAddIRx => []
  | .aInt => []
  | .aHlt => []
  | .aNop => []
  | .aLdaMem => []
  | .aLdxMem => []
  | .aLdyMem => []
  | .aStaMem => []
  | .aStxMem => []
  | .aStyMem => []
  | .aTax => []
  | .aTay => []
  | .aTai => []
  | .aTxa => []
  | .aTxy => []
  | .aTxi => []
  | .aTya => []
  | .aTyx => []
  | .aTyi => []
  | .aTia => []
  | .aTix => []
  | .aTiy => []
  | .aJmpI => []
  | .aCallI => []
  | .aRet => []
  | .aAndMem => []
  | .aAndX => []
  | .aAndY => []
  | .aOrMem => []
  | .aOrX => []
  | .aOrY => []
  | .aXorMem => []
  | .aXorX => []
  | .aXorY => []
  | .aAddMem => []
  | .aAddX => []
  | .aAddY => []
  | .aSubMem => []
  | .aSubX => []
  | .aSubY => []
  | .aCmpMem => []
  | .aCmpX => []
  | .aCmpY => []
  | .aShl => []
  | .aShr => []
  | .aRol => []
  | .aRor => []
  | .aBcsI => []
  | .aBccI => []
  | .aBnsI => []
  | .aBncI => []
  | .aBzsI => []
  | .aBzcI => []

/-- Encoding (R100): the opcode byte, then the operand bytes. -/
def encode (i : Instr) : List Byte :=
  opcodeOf i :: operandBytes i

/-- The variant in which a table word of `nbits` bits is read (assumption 10). The two tables share seven opcode
bytes; the table's own length decides between them, and where both rows have it Variant B (the default) is read. -/
def tableVariant (nbits : Nat) (op : Byte) : Variant :=
  match opcodeRow .b op, opcodeRow .a op with
  | none, some _ => .a
  | some sb, some sa =>
    if 8 * sb.length = nbits then .b else if 8 * sa.length = nbits then .a else .b
  | _, none => .b

/-- The bytes of a table word: byte `k` is bits `8k+7 .. 8k` of `w`; bits from `nbits` up are 0. -/
def tableWordBytes (nbits w : Nat) : List Byte :=
  let v := w % 2 ^ nbits
  [BitVec.ofNat 8 v, BitVec.ofNat 8 (v / 256), BitVec.ofNat 8 (v / 65536)]

/-- The instruction the decoder reads from a word numbered as spec/opcode_table.json numbers it. -/
def decodeTableWord (nbits w : Nat) : Option Instr :=
  match decode (tableVariant nbits (BitVec.ofNat 8 w)) (tableWordBytes nbits w) with
  | .ok (i, _) => some i
  | .error _ => none

end Sys2Proof
end

