-- ==== Sys2Proof/Machine/Cells.lean ====
section
/-! DEFINITION. Storage by key as plain data: the form in which main memory and the display are held. A list of
(key, byte) cells; a key that is not listed reads 0x00, the value main memory and the display hold at reset
(10_state.md R38). The canonical form: keys strictly rising, no listed 0x00, every key below the space's size. -/

namespace Sys2Proof.Machine

/-- The byte at a key: the cell listed for it, or 0x00. -/
def readCell : List Host.Cell → Nat → Byte
  | [], _ => 0
  | (k, v) :: cells, key => if k = key then v else readCell cells key

/-- Put a cell before the first cell with a larger key. -/
def insertCell (key : Nat) (v : Byte) : List Host.Cell → List Host.Cell
  | [] => [(key, v)]
  | (k, w) :: cells => if key < k then (key, v) :: (k, w) :: cells else (k, w) :: insertCell key v cells

/-- Drop whatever is listed for a key. -/
def dropCell (cells : List Host.Cell) (key : Nat) : List Host.Cell :=
  cells.filter fun c => c.1 != key

/-- The store with one byte written. Writing 0x00 unlists the key, so equal stores are equal data. -/
def writeCell (cells : List Host.Cell) (key : Nat) (v : Byte) : List Host.Cell :=
  if v = 0 then dropCell cells key else insertCell key v (dropCell cells key)

/-- The canonical form of a store of `size` bytes. -/
abbrev CellsWf (size : Nat) (cells : List Host.Cell) : Prop :=
  cells.Pairwise (fun c d => c.1 < d.1) ∧ ∀ c ∈ cells, c.2 ≠ 0 ∧ c.1 < size

/-- The canonical form of main memory (20_memory.md R60: 65536 bytes). -/
abbrev Memory.wf (mem : List Host.Cell) : Prop :=
  CellsWf 65536 mem

end Sys2Proof.Machine
end

