-- ==== Sys2Proof/Machine/Display.lean ====
section
/-! DEFINITION. The display buffer's operations (20_memory.md R80 to R86) on the display's cells alone, for a build
with parameters `p`. -/

namespace Sys2Proof.Machine

/-- The key of the cell at column `x`, row `y` (10_state.md R34), for `x < W`, `y < H`. -/
def cellKey (p : Params) (x y : Nat) : Nat :=
  y * p.width + x

/-- `disp[x][y]`; 0x00 where the grid has no cell. -/
def getCell (p : Params) (cells : List Host.Cell) (x y : Nat) : Byte :=
  if x < p.width ∧ y < p.height then readCell cells (cellKey p x y) else 0

/-- `SetPixel(x, y)` (R82): toggle a cell; the answer is the collision. -/
def setPixel (p : Params) (cells : List Host.Cell) (x y : Nat) : Bool × List Host.Cell :=
  if x ≥ p.width ∨ y ≥ p.height then (false, cells)
  else
    let old := readCell cells (cellKey p x y)
    (old != 0, writeCell cells (cellKey p x y) (if old = 0 then p.pixelOn else 0))

/-- `SetPixelColor(x, y, c)` (R83): overwrite a cell; the answer is whether it was on. -/
def setPixelColor (p : Params) (cells : List Host.Cell) (x y : Nat) (color : Byte) : Bool × List Host.Cell :=
  if x ≥ p.width ∨ y ≥ p.height then (false, cells)
  else (readCell cells (cellKey p x y) != 0, writeCell cells (cellKey p x y) color)

/-- The columns of one sprite row (R85, the loop over `j`): each set bit toggles a cell and overwrites the result;
the loop stops at the right edge. `acc` is `(col, cells)`. -/
def drawColumns (p : Params) (y : Nat) : List Bool → Nat → Bool × List Host.Cell → Bool × List Host.Cell
  | [], _, acc => acc
  | bit :: bits, x, acc =>
    if x ≥ p.width then acc
    else drawColumns p y bits (x + 1) (if bit then setPixel p acc.2 x y else acc)

/-- The rows of a sprite (R85, the loop over `i`); the loop stops at the bottom edge. -/
def drawRows (p : Params) (x : Nat) : List Byte → Nat → Bool × List Host.Cell → Bool × List Host.Cell
  | [], _, acc => acc
  | row :: rows, y, acc =>
    if y ≥ p.height then acc
    else drawRows p x rows (y + 1) (drawColumns p y (pixelsOf row) x acc)

/-- `DrawSprite(bytes, x, y)` (R85): the origin wraps, the body clips, and the answer is the collision of the last
cell toggled, false if none was. -/
def drawSprite (p : Params) (cells : List Host.Cell) (bytes : List Byte) (x y : Nat) : Bool × List Host.Cell :=
  drawRows p (x % p.width) bytes (y % p.height) (false, cells)

/-- `ClearDisplay()` (R84): every cell 0x00. -/
def clearCells : List Host.Cell :=
  []

/-- One call of the display port, with the boolean it answers (R82 to R85; `clear()` answers nothing, here false). -/
def applyDisplayMove (p : Params) (cells : List Host.Cell) : DisplayMove → Bool × List Host.Cell
  | .setPixel x y => setPixel p cells x y
  | .setPixelColor x y color => setPixelColor p cells x y color
  | .clear => (false, clearCells)
  | .drawSprite bytes x y => drawSprite p cells bytes x y

/-- `copy_bytes()` (R86): entry `(x, y)` is element `y` of element `x`. -/
def copyBytes (p : Params) (cells : List Host.Cell) : List (List Byte) :=
  (List.range p.width).map fun x => (List.range p.height).map fun y => getCell p cells x y

/-- `copy_bits()` (R86): entry `(x, y)` is whether the cell is on. -/
def copyBits (p : Params) (cells : List Host.Cell) : List (List Bool) :=
  (List.range p.width).map fun x => (List.range p.height).map fun y => getCell p cells x y != 0

end Sys2Proof.Machine
end

