-- ==== Sys2Proof/Machine/State.lean ====
section
/-! DEFINITION. The machine's state (10_state.md R20), its outputs (60_exceptions.md R312), its build parameters
(00_scope.md R4), what its environment will do (44_b_timer_key.md R185, 60_exceptions.md R322, 70_reset_and_hazards.md
R347), and the state at reset (10_state.md R38). Both variants' registers stand in one State; an instruction of one
variant leaves the other's alone. -/

namespace Sys2Proof.Machine

/-- Why a step could stop the machine. There is no reason: the hardware raises no exception (60_exceptions.md R310),
so the type has no constructor, no step faults, and nothing safe or unsafe rests on one. -/
inductive Fault where
  deriving DecidableEq, Repr

/-- Why a step could have no meaning. -/
inductive Refusal where
  /-- Raised by an arm of `exec` for an instruction that has no meaning yet; no arm does. Safe: it stops where the
  hardware goes on. -/
  | notModelled (mnemonic : String)
  deriving DecidableEq, Repr

/-- The kind of a diagnostic record (R312). -/
inductive DiagKind where
  | unknownOpcode
  | unimplemented
  deriving DecidableEq, Repr

/-- A diagnostic record `(kind, op, addr)` (R312). -/
structure DiagRecord where
  kind : DiagKind
  op : Byte
  addr : Word
  deriving DecidableEq, Repr

/-- A move of the host that changes the machine and is enabled when no run is active (70_reset_and_hazards.md R347).
Its queries change nothing and are functions of the state (Machine/HostPort.lean). -/
inductive HostMove where
  /-- `load_program(image)` (R341) -/
  | loadProgram (image : List Byte)
  /-- `run()` (R343) -/
  | run
  /-- `run(n)` (R343) -/
  | runFor (n : Nat)
  /-- `write(addr, v)` of the raw memory port (20_memory.md R64) -/
  | writeByte (addr : Nat) (v : Byte)
  /-- `write_word(addr, v)` of the raw memory port (20_memory.md R65) -/
  | writeWord (addr : Nat) (v : Word)
  /-- `reset()` of the raw memory port (20_memory.md R69) -/
  | memReset
  /-- a call of the display port (20_memory.md R82 to R85) -/
  | display (move : DisplayMove)
  deriving DecidableEq, Repr

/-- The state of the machine. -/
structure State where
  /-- build parameters (00_scope.md R4); no step changes them -/
  params : Params
  /-- Variant B general register Rx (R21) -/
  rx : Byte
  /-- Variant B general register Ry (R21) -/
  ry : Byte
  /-- Variant B flag register F (R25) -/
  f : Byte
  /-- index register I of both variants (R23) -/
  i : Word
  /-- Variant B delay timer DT (R28) -/
  dt : Byte
  /-- Variant B sound timer ST (R28) -/
  st : Byte
  /-- Variant A accumulator A (R22) -/
  a : Word
  /-- Variant A general register X (R22) -/
  x : Word
  /-- Variant A general register Y (R22) -/
  y : Word
  /-- Variant A carry flag C (R26) -/
  c : Bool
  /-- Variant A negative flag N (R26) -/
  n : Bool
  /-- Variant A zero flag Z (R26) -/
  z : Bool
  /-- program counter (R24) -/
  pc : Word
  /-- stack pointer, an index 0 to 255 (R29) -/
  sp : BitVec 8
  /-- call-stack slots (R33) -/
  stack : Vector Word 256
  /-- main memory (R32), in the form of Machine/Cells.lean -/
  mem : List Host.Cell
  /-- display cells (R34), in the form of Machine/Cells.lean; cell `(x, y)` has key `y * W + x` -/
  disp : List Host.Cell
  /-- running flag (R30) -/
  running : Bool
  /-- remaining-instruction governor (R30) -/
  gov : Option Nat
  /-- diagnostic list, oldest first (R312) -/
  diags : List DiagRecord
  /-- cycles executed in the current or last run (R343; the value `run(n)` returns) -/
  executed : Nat
  /-- the environment's samples for the cycles to come, oldest first (assumption 3) -/
  inputs : List Input
  /-- how many samples cycles have taken: the argument of the free value past the end of `inputs` (assumption 3) -/
  draws : Nat
  /-- moves the host will make when no run is active, oldest first (assumption 4) -/
  hostMoves : List HostMove
  deriving DecidableEq, Repr

/-- `Reset()` (70_reset_and_hazards.md R340) of a build with parameters `p`: every piece of state at its value of
R38, the diagnostic list empty; the model's own fields empty or 0 (assumptions 3, 4, 8). -/
def State.resetWith (p : Params) : State where
  params := p
  rx := 0
  ry := 0
  f := 0
  i := 0
  dt := 0
  st := 0
  a := 0
  x := 0
  y := 0
  c := false
  n := false
  z := false
  pc := 0
  sp := 0
  stack := Vector.replicate 256 0
  mem := []
  disp := []
  running := false
  gov := none
  diags := []
  executed := 0
  inputs := []
  draws := 0
  hostMoves := []

/-- The machine right after reset, with the default parameters (00_scope.md R4; assumption 2). -/
def State.reset : State :=
  .resetWith .default

end Sys2Proof.Machine
end

