-- ==== Sys2Proof/Machine/Ops.lean ====
section
/-! DEFINITION. The named operations through which every instruction reads and writes the machine: registers, `pc`,
main memory (20_memory.md R61 to R69), the call stack (R76, R77), the display, the timers (44_b_timer_key.md R185), the
environment's answers (60_exceptions.md R322, R323), the diagnostic list (R312), the skip (41_b_skip.md R130) and the
governor (70_reset_and_hazards.md R343). The machine takes no exception (60_exceptions.md R310, R317), so there is no
exception entry and no return from one. -/

namespace Sys2Proof.Machine

/-- What a meaning answers. -/
abbrev Result := Host.Outcome State Fault Refusal

/-- Continue after a next state; a stop stays a stop. -/
def andThen (o : Result) (g : State → State) : Result :=
  match o with
  | .next s => .next (g s)
  | .fault r => .fault r
  | .refused r => .refused r

/-! ### Registers and flags -/

/-- `Rx <- v` -/
def State.setRx (s : State) (v : Byte) : State := { s with rx := v }
/-- `Ry <- v` -/
def State.setRy (s : State) (v : Byte) : State := { s with ry := v }
/-- `F <- v` -/
def State.setF (s : State) (v : Byte) : State := { s with f := v }
/-- `I <- v` -/
def State.setI (s : State) (v : Word) : State := { s with i := v }
/-- `DT <- v` -/
def State.setDt (s : State) (v : Byte) : State := { s with dt := v }
/-- `ST <- v` -/
def State.setSt (s : State) (v : Byte) : State := { s with st := v }
/-- `A <- v` -/
def State.setA (s : State) (v : Word) : State := { s with a := v }
/-- `X <- v` -/
def State.setX (s : State) (v : Word) : State := { s with x := v }
/-- `Y <- v` -/
def State.setY (s : State) (v : Word) : State := { s with y := v }
/-- `C <- v` -/
def State.setC (s : State) (v : Bool) : State := { s with c := v }
/-- `N <- v` -/
def State.setN (s : State) (v : Bool) : State := { s with n := v }
/-- `Z <- v` -/
def State.setZ (s : State) (v : Bool) : State := { s with z := v }
/-- `pc <- v` -/
def State.setPc (s : State) (v : Word) : State := { s with pc := v }
/-- The call stack with its pointer. -/
def State.setStack (s : State) (sp : BitVec 8) (slots : Vector Word 256) : State :=
  { s with sp := sp, stack := slots }
/-- Main memory as a whole. -/
def State.setMem (s : State) (cells : List Host.Cell) : State := { s with mem := cells }
/-- The display as a whole. -/
def State.setDisp (s : State) (cells : List Host.Cell) : State := { s with disp := cells }
/-- `running <- v` -/
def State.setRunning (s : State) (v : Bool) : State := { s with running := v }
/-- `gov <- g` and the run loop's count of executed cycles (70_reset_and_hazards.md R343). -/
def State.setRunCount (s : State) (g : Option Nat) (executed : Nat) : State :=
  { s with gov := g, executed := executed }
/-- The diagnostic list as a whole. -/
def State.setDiags (s : State) (l : List DiagRecord) : State := { s with diags := l }
/-- The environment's samples to come and the count of those taken (assumption 3). -/
def State.setInputs (s : State) (inputs : List Input) (draws : Nat) : State :=
  { s with inputs := inputs, draws := draws }
/-- The host's moves to come (assumption 4). -/
def State.setHostMoves (s : State) (moves : List HostMove) : State := { s with hostMoves := moves }
/-- Another build of the hardware: `VARIANT`. No step does this; only `placeFetchWord` (assumption 10). -/
def State.setVariant (s : State) (v : Variant) : State := { s with params := { s.params with variant := v } }

/-! ### Main memory -/

/-- `MemRead(addr, 1)` (R61, R62). -/
def State.read8 (s : State) (addr : Nat) : Byte :=
  readCell s.mem (addr % 65536)

/-- `MemRead(addr, 2)` (R61, R63): big-endian, and 0x0000 at the top address. -/
def State.read16 (s : State) (addr : Nat) : Word :=
  if addr % 65536 = 0xFFFF then 0x0000 else wordOf (s.read8 addr) (s.read8 (addr + 1))

/-- `MemWrite(addr, 1, v)` (R61, R64). -/
def State.write8 (s : State) (addr : Nat) (v : Byte) : State :=
  s.setMem (writeCell s.mem (addr % 65536) v)

/-- `MemWrite(addr, 2, v)` (R61, R65): big-endian; at the top address by `WRITE_WORD_TOP`. -/
def State.write16 (s : State) (addr : Nat) (v : Word) : State :=
  if addr % 65536 ≠ 0xFFFF then (s.write8 addr (hiByte v)).write8 (addr + 1) (loByte v)
  else
    match s.params.wordTop with
    | .reject => s
    | .highOnly => s.write8 0xFFFF (hiByte v)
    | .wrap => (s.write8 0xFFFF (hiByte v)).write8 0x0000 (loByte v)

/-- `MemReadArray(addr, len)` (R61, R68): truncated at the top of the address space. -/
def State.readArray (s : State) (addr len : Nat) : List Byte :=
  (List.range (min len (65536 - addr % 65536))).map fun k => s.read8 (addr % 65536 + k)

/-- The memory's `reset()` (R69): every byte 0x00. -/
def State.memReset (s : State) : State :=
  s.setMem []

/-- The memory's `copy()` (R69): all 65536 bytes in address order. -/
def State.memCopy (s : State) : List Byte :=
  (List.range 65536).map s.read8

/-! ### Fetch -/

/-- `Fetch8()` (R66). -/
def State.fetch8 (s : State) : Byte × State :=
  (s.read8 s.pc.toNat, s.setPc (s.pc + 1))

/-- `Fetch16()` (R67). -/
def State.fetch16 (s : State) : Word × State :=
  (s.read16 s.pc.toNat, s.setPc (s.pc + 2))

/-- The fetch of a cycle (00_scope.md R7, 30_encoding.md R102): the opcode byte, then the whole operand if the opcode
is assigned, decoded. The state answered has `pc` at the byte after the instruction. -/
def State.fetchInstr (s : State) : Except DecodeError (Instr × List Byte) × State :=
  let v := s.params.variant
  let (op, s1) := s.fetch8
  match lenOf v op with
  | 3 => let (w, s2) := s1.fetch16; (decode v [op, hiByte w, loByte w], s2)
  | 2 => let (b, s2) := s1.fetch8; (decode v [op, b], s2)
  | _ => (decode v [op], s1)

/-- `Skip()` (41_b_skip.md R130): step over the instruction at `pc` by the length of its opcode byte. Only Variant B
has skips, so `Len` is Variant B's. -/
def State.skip (s : State) : State :=
  s.setPc (s.pc + BitVec.ofNat 16 (lenOf .b (s.read8 s.pc.toNat)))

/-- `Skip()` where the condition holds; otherwise nothing. -/
def State.skipIf (s : State) (cond : Bool) : State :=
  if cond then s.skip else s

/-! ### Call stack -/

/-- `Push(v)` (R76): increment, then store. -/
def State.push (s : State) (v : Word) : State :=
  s.setStack (s.sp + 1) (s.stack.set (s.sp + 1).toNat v (s.sp + 1).isLt)

/-- `stack[k]` (10_state.md R33). -/
def State.slot (s : State) (k : BitVec 8) : Word :=
  s.stack[k.toNat]'k.isLt

/-- The value `Pop()` returns (R77): the slot at `sp`. -/
def State.top (s : State) : Word :=
  s.slot s.sp

/-- The state `Pop()` leaves (R77): `sp` decremented, the slot kept. -/
def State.pop (s : State) : State :=
  s.setStack (s.sp - 1) s.stack

/-! ### Display -/

/-- `disp[x][y]` (10_state.md R34). -/
def State.cell (s : State) (x y : Nat) : Byte :=
  getCell s.params s.disp x y

/-- A call of the display port (R82 to R85): the display it leaves. -/
def State.displayMove (s : State) (move : DisplayMove) : State :=
  s.setDisp (applyDisplayMove s.params s.disp move).2

/-! ### Environment -/

/-- The environment's sample for the next cycle: the oldest listed, else the free value (assumption 3). -/
def State.sample (s : State) : Input :=
  match s.inputs with
  | [] => Config.freeInput s.draws
  | input :: _ => input

/-- The next sample with only the display calls `moves` still to be made before its cycle (assumption 5). -/
def State.keepMoves (s : State) (moves : List DisplayMove) : State :=
  s.setInputs ({ s.sample with displayMoves := moves } :: s.inputs.tail) s.draws

/-- A cycle has taken its sample. -/
def State.consumeInput (s : State) : State :=
  s.setInputs s.inputs.tail (s.draws + 1)

/-- `KeyDown(k)` (60_exceptions.md R322). -/
def State.keyDown (s : State) (k : Byte) : Bool :=
  s.sample.keysDown.contains k

/-- `NextKey()` (60_exceptions.md R322). -/
def State.nextKey (s : State) : Option Byte :=
  s.sample.nextKey

/-- One timer's decrement: `t - min(t, ticks)` (R185). -/
def countDown (t : Byte) (ticks : Nat) : Byte :=
  BitVec.ofNat 8 (t.toNat - min t.toNat ticks)

/-- `TimerTick(ticks)` (R185), performed at the start of every Variant B cycle; Variant A has no timers and ignores
`ticks`. -/
def State.timerTick (s : State) : State :=
  match s.params.variant with
  | .b => (s.setDt (countDown s.dt s.sample.ticks)).setSt (countDown s.st s.sample.ticks)
  | .a => s

/-! ### Diagnostics and the run loop's bookkeeping -/

/-- `Diag(kind, op, addr)` (R312): append one record. -/
def State.diag (s : State) (kind : DiagKind) (op : Byte) (addr : Word) : State :=
  s.setDiags (s.diags ++ [⟨kind, op, addr⟩])

/-- A run is active (70_reset_and_hazards.md R343): the condition of the run loop, `running = 1` and the governor not
exhausted. -/
def State.runActive (s : State) : Bool :=
  s.running && s.gov != some 0

/-- The end of an executed cycle (R343): `executed + 1`, and the governor, if there is one, decremented; the cycle's
sample is used up. -/
def State.endCycle (s : State) : State :=
  (s.setRunCount (s.gov.map (· - 1)) (s.executed + 1)).consumeInput

/-- Entry of `run()` (`limit = none`) or `run(n)` (`limit = some n`) (R343). -/
def State.startRun (s : State) (limit : Option Nat) : State :=
  (s.setRunCount limit 0).setRunning true

/-- The bytes of an image from address `addr` up; those past 0xFFFF are dropped (R341). -/
def State.writeImage (s : State) : Nat → List Byte → State
  | _, [] => s
  | addr, v :: image => if addr ≤ 0xFFFF then (s.write8 addr v).writeImage (addr + 1) image else s

/-- Bytes written one after another from address `addr`, each address modulo 65536 (assumption 10). -/
def State.writeFetchBytes (s : State) : Nat → List Byte → State
  | _, [] => s
  | addr, v :: bytes => (s.write8 addr v).writeFetchBytes (addr + 1) bytes

/-- `load_program(image)` (R341): the image from `pc` up, then `pc` from the word at address 0. -/
def State.loadProgram (s : State) (image : List Byte) : State :=
  let loaded := s.writeImage s.pc.toNat image
  loaded.setPc (loaded.read16 0x0000)

end Sys2Proof.Machine
end

