-- ==== Sys2Proof/Machine/Operands.lean ====
section
/-! DEFINITION. Variant A's second operand (48_a_alu.md R270), and the shared shapes of instruction effect: F-writing
arithmetic on Rx (42_b_load_alu.md), arithmetic on A with its flags (48_a_alu.md R271 to R299), and the two branch forms
(47_a_control_branch.md R245). -/

namespace Sys2Proof.Machine

/-- The four operand forms of R270: `#imm16`, `(I)`, `X`, `Y`. -/
inductive Operand where
  | imm (m : Word)
  | mem
  | x
  | y
  deriving DecidableEq, Repr

/-- The word `m` an operand form yields (R270). -/
def State.operand (s : State) : Operand → Word
  | .imm m => m
  | .mem => s.read16 s.i.toNat
  | .x => s.x
  | .y => s.y

/-- `SetNZ(r)` (R271). -/
def State.setNZ (s : State) (r : Word) : State :=
  (s.setN (topBit16 r)).setZ (isZero16 r)

/-- `A <- r; SetNZ(A)`: the logic instructions (R272 to R283). -/
def State.logicResult (s : State) (r : Word) : State :=
  (s.setA r).setNZ r

/-- `A <- A + m`, C, N, Z (R284). -/
def State.addA (s : State) (m : Word) : State :=
  ((s.setA (sum16 s.a m)).setC (carry16 s.a m)).setNZ (sum16 s.a m)

/-- The flags of `A - m` (R292): C, N, Z; A is not written. -/
def State.compareA (s : State) (m : Word) : State :=
  (s.setC (borrow16 s.a m)).setNZ (diff16 s.a m)

/-- `A <- A - m`, C, N, Z (R288). -/
def State.subA (s : State) (m : Word) : State :=
  (s.compareA m).setA (diff16 s.a m)

/-- `A <- r; C <- b; SetNZ(A)`: the shifts and rotates (R296 to R299). -/
def State.shiftResult (s : State) (r : Word) (b : Bool) : State :=
  ((s.setA r).setC b).setNZ r

/-- `BranchI(cond)` (R245): to the value of I. -/
def State.branchI (s : State) (cond : Bool) : State :=
  if cond then s.setPc s.i else s

/-- `BranchRel(cond)` (R245), the offset already fetched: relative to the address after the branch. -/
def State.branchRel (s : State) (cond : Bool) (d : Byte) : State :=
  if cond then s.setPc (s.pc + sext16 d) else s

/-- `Rx <- r` and `F <- b`. -/
def State.setRxF (s : State) (r : Byte) (b : Bool) : State :=
  (s.setRx r).setF (flagByte b)

/-- `Push(pc); pc <- target`, `pc` being the address after the instruction: the calls (R121, R242, R243). -/
def State.call (s : State) (target : Word) : State :=
  (s.push s.pc).setPc target

/-- `pc <- Pop()`: the returns (R124, R244). -/
def State.ret (s : State) : State :=
  s.pop.setPc s.top

end Sys2Proof.Machine
end

