-- ==== Sys2Proof/Machine/AAlu.lean ====
section
/-! DEFINITION. Variant A logic, arithmetic, compare, shift and rotate (48_a_alu.md R270 to R300).
In every meaning the operand is already fetched and `pc` is at the byte after the instruction (30_encoding.md R102). -/

namespace Sys2Proof.Machine

/-- `AND #imm16` (R272): `A <- A AND imm16; N, Z`. -/
def execAAndImm (imm : Word) (s : State) : Result :=
  .next (s.logicResult (s.a &&& s.operand (.imm imm)))

/-- `AND (I)` (R273): `A <- A AND MemRead(I, 2); N, Z`. -/
def execAAndMem (s : State) : Result :=
  .next (s.logicResult (s.a &&& s.operand .mem))

/-- `AND X` (R274): `A <- A AND X; N, Z`. -/
def execAAndX (s : State) : Result :=
  .next (s.logicResult (s.a &&& s.operand .x))

/-- `AND Y` (R275): `A <- A AND Y; N, Z`. -/
def execAAndY (s : State) : Result :=
  .next (s.logicResult (s.a &&& s.operand .y))

/-- `OR #imm16` (R276): `A <- A OR imm16; N, Z`. -/
def execAOrImm (imm : Word) (s : State) : Result :=
  .next (s.logicResult (s.a ||| s.operand (.imm imm)))

/-- `OR (I)` (R277): `A <- A OR MemRead(I, 2); N, Z`. -/
def execAOrMem (s : State) : Result :=
  .next (s.logicResult (s.a ||| s.operand .mem))

/-- `OR X` (R278): `A <- A OR X; N, Z`. -/
def execAOrX (s : State) : Result :=
  .next (s.logicResult (s.a ||| s.operand .x))

/-- `OR Y` (R279): `A <- A OR Y; N, Z`. -/
def execAOrY (s : State) : Result :=
  .next (s.logicResult (s.a ||| s.operand .y))

/-- `XOR #imm16` (R280): `A <- A XOR imm16; N, Z`. -/
def execAXorImm (imm : Word) (s : State) : Result :=
  .next (s.logicResult (s.a ^^^ s.operand (.imm imm)))

/-- `XOR (I)` (R281): `A <- A XOR MemRead(I, 2); N, Z`. -/
def execAXorMem (s : State) : Result :=
  .next (s.logicResult (s.a ^^^ s.operand .mem))

/-- `XOR X` (R282): `A <- A XOR X; N, Z`. -/
def execAXorX (s : State) : Result :=
  .next (s.logicResult (s.a ^^^ s.operand .x))

/-- `XOR Y` (R283): `A <- A XOR Y; N, Z`. -/
def execAXorY (s : State) : Result :=
  .next (s.logicResult (s.a ^^^ s.operand .y))

/-- `ADD #imm16` (R284): `A <- A + imm16; C, N, Z`. -/
def execAAddImm (imm : Word) (s : State) : Result :=
  .next (s.addA (s.operand (.imm imm)))

/-- `ADD (I)` (R285): `A <- A + MemRead(I, 2); C, N, Z`. -/
def execAAddMem (s : State) : Result :=
  .next (s.addA (s.operand .mem))

/-- `ADD X` (R286): `A <- A + X; C, N, Z`. -/
def execAAddX (s : State) : Result :=
  .next (s.addA (s.operand .x))

/-- `ADD Y` (R287): `A <- A + Y; C, N, Z`. -/
def execAAddY (s : State) : Result :=
  .next (s.addA (s.operand .y))

/-- `SUB #imm16` (R288): `A <- A - imm16; C, N, Z`. -/
def execASubImm (imm : Word) (s : State) : Result :=
  .next (s.subA (s.operand (.imm imm)))

/-- `SUB (I)` (R289): `A <- A - MemRead(I, 2); C, N, Z`. -/
def execASubMem (s : State) : Result :=
  .next (s.subA (s.operand .mem))

/-- `SUB X` (R290): `A <- A - X; C, N, Z`. -/
def execASubX (s : State) : Result :=
  .next (s.subA (s.operand .x))

/-- `SUB Y` (R291): `A <- A - Y; C, N, Z`. -/
def execASubY (s : State) : Result :=
  .next (s.subA (s.operand .y))

/-- `CMP #imm16` (R292): `flags of A - imm16; A unchanged`. -/
def execACmpImm (imm : Word) (s : State) : Result :=
  .next (s.compareA (s.operand (.imm imm)))

/-- `CMP (I)` (R293): `flags of A - MemRead(I, 2)`. -/
def execACmpMem (s : State) : Result :=
  .next (s.compareA (s.operand .mem))

/-- `CMP X` (R294): `flags of A - X`. -/
def execACmpX (s : State) : Result :=
  .next (s.compareA (s.operand .x))

/-- `CMP Y` (R295): `flags of A - Y`. -/
def execACmpY (s : State) : Result :=
  .next (s.compareA (s.operand .y))

/-- `SHL` (R296): `A <- A << 1; C bit out, N, Z`. -/
def execAShl (s : State) : Result :=
  .next (s.shiftResult (shiftLeft16 s.a) (topBit16 s.a))

/-- `SHR` (R297): `A <- A >> 1; C bit out, N, Z`. -/
def execAShr (s : State) : Result :=
  .next (s.shiftResult (shiftRight16 s.a) (lowBit16 s.a))

/-- `ROL` (R298): `rotate A left through C`. -/
def execARol (s : State) : Result :=
  .next (s.shiftResult (rotateLeft16 s.a s.c) (topBit16 s.a))

/-- `ROR` (R299): `rotate A right through C`. -/
def execARor (s : State) : Result :=
  .next (s.shiftResult (rotateRight16 s.a s.c) (lowBit16 s.a))

end Sys2Proof.Machine
end

