-- ==== Sys2Proof/Machine/AControl.lean ====
section
/-! DEFINITION. Variant A jumps, calls, return and branches (47_a_control_branch.md R240 to R258).
In every meaning the operand is already fetched and `pc` is at the byte after the instruction (30_encoding.md R102). -/

namespace Sys2Proof.Machine

/-- `JMP addr16` (R240): `pc <- addr16`. -/
def execAJmp (addr : Word) (s : State) : Result :=
  .next (s.setPc addr)

/-- `JMP (I)` (R241): `pc <- I`. -/
def execAJmpI (s : State) : Result :=
  .next (s.setPc s.i)

/-- `CALL addr16` (R242): `Push(pc); pc <- addr16`. -/
def execACall (addr : Word) (s : State) : Result :=
  .next (s.call addr)

/-- `CALL (I)` (R243): `Push(pc); pc <- I`. -/
def execACallI (s : State) : Result :=
  .next (s.call s.i)

/-- `RET` (R244): `pc <- Pop()`. -/
def execARet (s : State) : Result :=
  .next (s.ret)

/-- `BCS (I)` (R246): `if C = 1: pc <- I`. -/
def execABcsI (s : State) : Result :=
  .next (s.branchI s.c)

/-- `BCS rel8` (R247): `if C = 1: pc <- pc + sext(rel8)`. -/
def execABcsRel (rel : Byte) (s : State) : Result :=
  .next (s.branchRel s.c rel)

/-- `BCC (I)` (R248): `if C = 0: pc <- I`. -/
def execABccI (s : State) : Result :=
  .next (s.branchI (!s.c))

/-- `BCC rel8` (R249): `if C = 0: pc <- pc + sext(rel8)`. -/
def execABccRel (rel : Byte) (s : State) : Result :=
  .next (s.branchRel (!s.c) rel)

/-- `BNS (I)` (R250): `if N = 1: pc <- I`. -/
def execABnsI (s : State) : Result :=
  .next (s.branchI s.n)

/-- `BNS rel8` (R251): `if N = 1: pc <- pc + sext(rel8)`. -/
def execABnsRel (rel : Byte) (s : State) : Result :=
  .next (s.branchRel s.n rel)

/-- `BNC (I)` (R252): `if N = 0: pc <- I`. -/
def execABncI (s : State) : Result :=
  .next (s.branchI (!s.n))

/-- `BNC rel8` (R253): `if N = 0: pc <- pc + sext(rel8)`. -/
def execABncRel (rel : Byte) (s : State) : Result :=
  .next (s.branchRel (!s.n) rel)

/-- `BZS (I)` (R254): `if Z = 1: pc <- I`. -/
def execABzsI (s : State) : Result :=
  .next (s.branchI s.z)

/-- `BZS rel8` (R255): `if Z = 1: pc <- pc + sext(rel8)`. -/
def execABzsRel (rel : Byte) (s : State) : Result :=
  .next (s.branchRel s.z rel)

/-- `BZC (I)` (R256): `if Z = 0: pc <- I`. -/
def execABzcI (s : State) : Result :=
  .next (s.branchI (!s.z))

/-- `BZC rel8` (R257): `if Z = 0: pc <- pc + sext(rel8)`. -/
def execABzcRel (rel : Byte) (s : State) : Result :=
  .next (s.branchRel (!s.z) rel)

end Sys2Proof.Machine
end

