-- ==== Sys2Proof/Machine/ALoadStore.lean ====
section
/-! DEFINITION. Variant A system instructions, loads, stores and register transfers (46_a_load_store_transfer.md R200 to R225).
In every meaning the operand is already fetched and `pc` is at the byte after the instruction (30_encoding.md R102). -/

namespace Sys2Proof.Machine

/-- `INT` (R200): the unimplemented placeholder: a diagnostic with the address the opcode was fetched from, one before
`pc`; nothing else. -/
def execAInt (s : State) : Result :=
  .next (s.diag .unimplemented 0x00 (s.pc - 1))

/-- `HLT` (R201): `running <- 0`; halt; nothing else changes. -/
def execAHlt (s : State) : Result :=
  .next (s.setRunning false)

/-- `NOP` (R202): no operation, no diagnostic. -/
def execANop (s : State) : Result :=
  .next s

/-- `LDA #imm16` (R203): `A <- imm16`. -/
def execALdaImm (imm : Word) (s : State) : Result :=
  .next (s.setA imm)

/-- `LDX #imm16` (R204): `X <- imm16`. -/
def execALdxImm (imm : Word) (s : State) : Result :=
  .next (s.setX imm)

/-- `LDY #imm16` (R205): `Y <- imm16`. -/
def execALdyImm (imm : Word) (s : State) : Result :=
  .next (s.setY imm)

/-- `LDI #imm16` (R206): `I <- imm16`. -/
def execALdiImm (imm : Word) (s : State) : Result :=
  .next (s.setI imm)

/-- `LDA (I)` (R207): `A <- MemRead(I, 2)`. -/
def execALdaMem (s : State) : Result :=
  .next (s.setA (s.read16 s.i.toNat))

/-- `LDX (I)` (R208): `X <- MemRead(I, 2)`. -/
def execALdxMem (s : State) : Result :=
  .next (s.setX (s.read16 s.i.toNat))

/-- `LDY (I)` (R209): `Y <- MemRead(I, 2)`. -/
def execALdyMem (s : State) : Result :=
  .next (s.setY (s.read16 s.i.toNat))

/-- `STA (I)` (R210): `MemWrite(I, 2, A)`. -/
def execAStaMem (s : State) : Result :=
  .next (s.write16 s.i.toNat s.a)

/-- `STX (I)` (R211): `MemWrite(I, 2, X)`. -/
def execAStxMem (s : State) : Result :=
  .next (s.write16 s.i.toNat s.x)

/-- `STY (I)` (R212): `MemWrite(I, 2, Y)`. -/
def execAStyMem (s : State) : Result :=
  .next (s.write16 s.i.toNat s.y)

/-- `TAX` (R213): `X <- A`. -/
def execATax (s : State) : Result :=
  .next (s.setX s.a)

/-- `TAY` (R214): `Y <- A`. -/
def execATay (s : State) : Result :=
  .next (s.setY s.a)

/-- `TAI` (R215): `I <- A`. -/
def execATai (s : State) : Result :=
  .next (s.setI s.a)

/-- `TXA` (R216): `A <- X`. -/
def execATxa (s : State) : Result :=
  .next (s.setA s.x)

/-- `TXY` (R217): `Y <- X`. -/
def execATxy (s : State) : Result :=
  .next (s.setY s.x)

/-- `TXI` (R218): `I <- X`. -/
def execATxi (s : State) : Result :=
  .next (s.setI s.x)

/-- `TYA` (R219): `A <- Y`. -/
def execATya (s : State) : Result :=
  .next (s.setA s.y)

/-- `TYX` (R220): `X <- Y`. -/
def execATyx (s : State) : Result :=
  .next (s.setX s.y)

/-- `TYI` (R221): `I <- Y`. -/
def execATyi (s : State) : Result :=
  .next (s.setI s.y)

/-- `TIA` (R222): `A <- I`. -/
def execATia (s : State) : Result :=
  .next (s.setA s.i)

/-- `TIX` (R223): `X <- I`. -/
def execATix (s : State) : Result :=
  .next (s.setX s.i)

/-- `TIY` (R224): `Y <- I`. -/
def execATiy (s : State) : Result :=
  .next (s.setY s.i)

end Sys2Proof.Machine
end

