-- ==== Sys2Proof/Machine/BControl.lean ====
section
/-! DEFINITION. Variant B control transfer (40_b_control.md R120 to R125).
In every meaning the operand is already fetched and `pc` is at the byte after the instruction (30_encoding.md R102). -/

namespace Sys2Proof.Machine

/-- `JP addr16` (R120): `pc <- addr16`; jump. -/
def execBJp (addr : Word) (s : State) : Result :=
  .next (s.setPc addr)

/-- `CALL addr16` (R121): `Push(pc); pc <- addr16`; call a subroutine; the return address is the byte after the
instruction. -/
def execBCall (addr : Word) (s : State) : Result :=
  .next (s.call addr)

/-- `JP Rx, addr16` (R122): `pc <- addr16 + Rx`; jump to an address plus Rx, modulo 65536. -/
def execBJpRx (addr : Word) (s : State) : Result :=
  .next (s.setPc (BitVec.ofNat 16 (addr.toNat + s.rx.toNat)))

/-- `EXIT` (R123): `running <- 0`; halt; nothing else changes. -/
def execBExit (s : State) : Result :=
  .next (s.setRunning false)

/-- `RET` (R124): `pc <- Pop()`; return from a subroutine. -/
def execBRet (s : State) : Result :=
  .next (s.ret)

end Sys2Proof.Machine
end

