-- ==== Sys2Proof/Machine/BDisplay.lean ====
section
/-! DEFINITION. Variant B display instructions (45_b_display.md R195, R196).
In every meaning the operand is already fetched and `pc` is at the byte after the instruction (30_encoding.md R102). -/

namespace Sys2Proof.Machine

/-- `CLS` (R195): every cell 0x00; F is not written. -/
def execBCls (s : State) : Result :=
  .next (s.setDisp clearCells)

/-- `DRW n8` (R196): draw n8 rows from `mem[I..]` at column Rx, row Ry; F is the collision of the last cell toggled.
-/
def execBDrw (n : Byte) (s : State) : Result :=
  let drawn := drawSprite s.params s.disp (s.readArray s.i.toNat n.toNat) s.rx.toNat s.ry.toNat
  .next ((s.setDisp drawn.2).setF (flagByte drawn.1))

end Sys2Proof.Machine
end

