-- ==== Sys2Proof/Machine/BIndexMemory.lean ====
section
/-! DEFINITION. Variant B index register, byte transfers through I, BCD (43_b_index_memory.md R170 to R177).
In every meaning the operand is already fetched and `pc` is at the byte after the instruction (30_encoding.md R102). -/

namespace Sys2Proof.Machine

/-- The hundreds digit of `v` (R177): `v / 100`. -/
def bcdHundreds (v : Byte) : Byte :=
  BitVec.ofNat 8 (v.toNat / 100)

/-- The tens digit of `v` (R177): `(v / 10) mod 10`. -/
def bcdTens (v : Byte) : Byte :=
  BitVec.ofNat 8 (v.toNat / 10 % 10)

/-- The ones digit of `v` (R177): `v mod 10`. -/
def bcdOnes (v : Byte) : Byte :=
  BitVec.ofNat 8 (v.toNat % 10)

/-- `LD I, addr16` (R170): `I <- addr16`. -/
def execBLdI (addr : Word) (s : State) : Result :=
  .next (s.setI addr)

/-- `ADD I, Rx` (R171): `I <- I + Rx`; modulo 65536; F is not written. -/
def execBAddIRx (s : State) : Result :=
  .next (s.setI (BitVec.ofNat 16 (s.i.toNat + s.rx.toNat)))

/-- `LD [I], Rx` (R172): `mem[I] <- Rx`. -/
def execBLdMemRx (s : State) : Result :=
  .next (s.write8 s.i.toNat s.rx)

/-- `LD [I], Ry` (R173): `mem[I] <- Ry`. -/
def execBLdMemRy (s : State) : Result :=
  .next (s.write8 s.i.toNat s.ry)

/-- `LD Rx, [I]` (R174): `Rx <- mem[I]`. -/
def execBLdRxMem (s : State) : Result :=
  .next (s.setRx (s.read8 s.i.toNat))

/-- `LD Ry, [I]` (R175): `Ry <- mem[I]`. -/
def execBLdRyMem (s : State) : Result :=
  .next (s.setRy (s.read8 s.i.toNat))

/-- `BCD Rx` (R177): the decimal digits of Rx to three bytes from I, each address modulo 65536, hundreds first. -/
def execBBcd (s : State) : Result :=
  .next (((s.write8 s.i.toNat (bcdHundreds s.rx)).write8 (s.i.toNat + 1) (bcdTens s.rx)).write8 (s.i.toNat + 2) (bcdOnes s.rx))

end Sys2Proof.Machine
end

