-- ==== Sys2Proof/Machine/BLoadAlu.lean ====
section
/-! DEFINITION. Variant B loads and 8-bit arithmetic and logic (42_b_load_alu.md R145 to R160).
In every meaning the operand is already fetched and `pc` is at the byte after the instruction (30_encoding.md R102). -/

namespace Sys2Proof.Machine

/-- `LD Rx, imm8` (R145): `Rx <- imm8`. -/
def execBLdRxImm (imm : Byte) (s : State) : Result :=
  .next (s.setRx imm)

/-- `LD Ry, imm8` (R146): `Ry <- imm8`. -/
def execBLdRyImm (imm : Byte) (s : State) : Result :=
  .next (s.setRy imm)

/-- `ADD Rx, imm8` (R147): `Rx <- Rx + imm8, F carry`. -/
def execBAddRxImm (imm : Byte) (s : State) : Result :=
  .next (s.setRxF (sum8 s.rx imm) (carry8 s.rx imm))

/-- `ADD Ry, imm8` (R148): `Ry <- Ry + imm8, F carry`. -/
def execBAddRyImm (imm : Byte) (s : State) : Result :=
  .next ((s.setRy (sum8 s.ry imm)).setF (flagByte (carry8 s.ry imm)))

/-- `LD Rx, Ry` (R149): `Rx <- Ry`. -/
def execBLdRxRy (s : State) : Result :=
  .next (s.setRx s.ry)

/-- `OR Rx, Ry` (R150): `Rx <- Rx OR Ry`. -/
def execBOr (s : State) : Result :=
  .next (s.setRx (s.rx ||| s.ry))

/-- `AND Rx, Ry` (R151): `Rx <- Rx AND Ry`. -/
def execBAnd (s : State) : Result :=
  .next (s.setRx (s.rx &&& s.ry))

/-- `XOR Rx, Ry` (R152): `Rx <- Rx XOR Ry`. -/
def execBXor (s : State) : Result :=
  .next (s.setRx (s.rx ^^^ s.ry))

/-- `ADD Rx, Ry` (R153): `Rx <- Rx + Ry, F carry`. -/
def execBAddRxRy (s : State) : Result :=
  .next (s.setRxF (sum8 s.rx s.ry) (carry8 s.rx s.ry))

/-- `SUB Rx, Ry` (R154): `Rx <- Rx - Ry, F borrow`. -/
def execBSub (s : State) : Result :=
  .next (s.setRxF (diff8 s.rx s.ry) (borrow8 s.rx s.ry))

/-- `SHR Rx` (R155): `Rx <- Rx >> 1, F bit out`. -/
def execBShr (s : State) : Result :=
  .next (s.setRxF (shiftRight8 s.rx) (lowBit8 s.rx))

/-- `SUBN Rx, Ry` (R156): `Rx <- Ry - Rx, F borrow`. -/
def execBSubn (s : State) : Result :=
  .next (s.setRxF (diff8 s.ry s.rx) (borrow8 s.ry s.rx))

/-- `LD Ry, Rx` (R157): `Ry <- Rx`. -/
def execBLdRyRx (s : State) : Result :=
  .next (s.setRy s.rx)

/-- `LD Rx, F` (R158): `Rx <- F`. -/
def execBLdRxF (s : State) : Result :=
  .next (s.setRx s.f)

/-- `SHL Rx` (R159): `Rx <- Rx << 1, F bit out`. -/
def execBShl (s : State) : Result :=
  .next (s.setRxF (shiftLeft8 s.rx) (topBit8 s.rx))

end Sys2Proof.Machine
end

