-- ==== Sys2Proof/Machine/BSkip.lean ====
section
/-! DEFINITION. Variant B conditional skips (41_b_skip.md R131 to R138), over `State.skip` (R130).
In every meaning the operand is already fetched and `pc` is at the byte after the instruction (30_encoding.md R102). -/

namespace Sys2Proof.Machine

/-- `SE Rx, imm8` (R131): `skip if Rx = imm8`. -/
def execBSeRxImm (imm : Byte) (s : State) : Result :=
  .next (s.skipIf (s.rx == imm))

/-- `SE Ry, imm8` (R132): `skip if Ry = imm8`. -/
def execBSeRyImm (imm : Byte) (s : State) : Result :=
  .next (s.skipIf (s.ry == imm))

/-- `SNE Rx, imm8` (R133): `skip if Rx ≠ imm8`. -/
def execBSneRxImm (imm : Byte) (s : State) : Result :=
  .next (s.skipIf (s.rx != imm))

/-- `SNE Ry, imm8` (R134): `skip if Ry ≠ imm8`. -/
def execBSneRyImm (imm : Byte) (s : State) : Result :=
  .next (s.skipIf (s.ry != imm))

/-- `SE Rx, Ry` (R135): `skip if Rx = Ry`. -/
def execBSeRxRy (s : State) : Result :=
  .next (s.skipIf (s.rx == s.ry))

/-- `SNE Rx, Ry` (R136): `skip if Rx ≠ Ry`. -/
def execBSneRxRy (s : State) : Result :=
  .next (s.skipIf (s.rx != s.ry))

/-- `SKP Rx` (R137): asks the keyboard once. -/
def execBSkp (s : State) : Result :=
  .next (s.skipIf (s.keyDown s.rx))

/-- `SKNP Rx` (R138): asks the keyboard once. -/
def execBSknp (s : State) : Result :=
  .next (s.skipIf (!s.keyDown s.rx))

end Sys2Proof.Machine
end

