-- ==== Sys2Proof/Machine/BTimerKey.lean ====
section
/-! DEFINITION. Variant B timers and the blocking key read (44_b_timer_key.md R186 to R189).
In every meaning the operand is already fetched and `pc` is at the byte after the instruction (30_encoding.md R102). -/

namespace Sys2Proof.Machine

/-- `LD Rx, DT` (R186): `Rx <- DT`; the value after this cycle's tick. -/
def execBLdRxDt (s : State) : Result :=
  .next (s.setRx s.dt)

/-- `LD DT, Rx` (R187): `DT <- Rx`. -/
def execBLdDtRx (s : State) : Result :=
  .next (s.setDt s.rx)

/-- `LD ST, Rx` (R188): `ST <- Rx`. -/
def execBLdStRx (s : State) : Result :=
  .next (s.setSt s.rx)

/-- `LD Rx, K` (R189): wait for a key. With no key the instruction holds: nothing changes, and the cycle that runs it
is no step (`holds`). -/
def execBLdRxK (s : State) : Result :=
  match s.nextKey with
  | some k => .next (s.setRx k)
  | none => .next s

/-- The instruction holds (R189): it is `LD Rx, K` and the keyboard answers no key. Its cycle then has no step. -/
def holds (i : Instr) (s : State) : Bool :=
  match i with
  | .bLdRxK => s.nextKey.isNone
  | _ => false

end Sys2Proof.Machine
end

