-- ==== Sys2Proof/Machine/Dispatch.lean ====
section
/-! DEFINITION. The dispatch of a decoded instruction to its meaning, one arm per row of spec/opcode_table.json. -/

namespace Sys2Proof.Machine

def exec (i : Instr) (s : State) : Host.Outcome State Fault Refusal :=
  match i with
  -- Variant B control transfer
  | .bJp addr => Sys2Proof.Machine.execBJp addr s
  | .bCall addr => Sys2Proof.Machine.execBCall addr s
  | .bExit => Sys2Proof.Machine.execBExit s
  | .bJpRx addr => Sys2Proof.Machine.execBJpRx addr s
  | .bRet => Sys2Proof.Machine.execBRet s
  -- Variant B conditional skips
  | .bSeRxImm imm => Sys2Proof.Machine.execBSeRxImm imm s
  | .bSeRyImm imm => Sys2Proof.Machine.execBSeRyImm imm s
  | .bSneRxImm imm => Sys2Proof.Machine.execBSneRxImm imm s
  | .bSneRyImm imm => Sys2Proof.Machine.execBSneRyImm imm s
  | .bSeRxRy => Sys2Proof.Machine.execBSeRxRy s
  | .bSneRxRy => Sys2Proof.Machine.execBSneRxRy s
  | .bSkp => Sys2Proof.Machine.execBSkp s
  | .bSknp => Sys2Proof.Machine.execBSknp s
  -- Variant B loads and 8-bit arithmetic and logic
  | .bLdRxImm imm => Sys2Proof.Machine.execBLdRxImm imm s
  | .bLdRyImm imm => Sys2Proof.Machine.execBLdRyImm imm s
  | .bAddRxImm imm => Sys2Proof.Machine.execBAddRxImm imm s
  | .bAddRyImm imm => Sys2Proof.Machine.execBAddRyImm imm s
  | .bLdRxRy => Sys2Proof.Machine.execBLdRxRy s
  | .bOr => Sys2Proof.Machine.execBOr s
  | .bAnd => Sys2Proof.Machine.execBAnd s
  | .bXor => Sys2Proof.Machine.execBXor s
  | .bAddRxRy => Sys2Proof.Machine.execBAddRxRy s
  | .bSub => Sys2Proof.Machine.execBSub s
  | .bShr => Sys2Proof.Machine.execBShr s
  | .bSubn => Sys2Proof.Machine.execBSubn s
  | .bLdRyRx => Sys2Proof.Machine.execBLdRyRx s
  | .bLdRxF => Sys2Proof.Machine.execBLdRxF s
  | .bShl => Sys2Proof.Machine.execBShl s
  -- Variant B index register, byte transfers through I, BCD
  | .bLdI addr => Sys2Proof.Machine.execBLdI addr s
  | .bLdMemRx => Sys2Proof.Machine.execBLdMemRx s
  | .bLdMemRy => Sys2Proof.Machine.execBLdMemRy s
  | .bLdRxMem => Sys2Proof.Machine.execBLdRxMem s
  | .bBcd => Sys2Proof.Machine.execBBcd s
  | .bLdRyMem => Sys2Proof.Machine.execBLdRyMem s
  | .bAddIRx => Sys2Proof.Machine.execBAddIRx s
  -- Variant B timers and the blocking key read
  | .bLdDtRx => Sys2Proof.Machine.execBLdDtRx s
  | .bLdRxDt => Sys2Proof.Machine.execBLdRxDt s
  | .bLdStRx => Sys2Proof.Machine.execBLdStRx s
  | .bLdRxK => Sys2Proof.Machine.execBLdRxK s
  -- Variant B display instructions
  | .bDrw n => Sys2Proof.Machine.execBDrw n s
  | .bCls => Sys2Proof.Machine.execBCls s
  -- Variant A system instructions, loads, stores and register transfers
  | .aInt => Sys2Proof.Machine.execAInt s
  | .aHlt => Sys2Proof.Machine.execAHlt s
  | .aNop => Sys2Proof.Machine.execANop s
  | .aLdaImm imm => Sys2Proof.Machine.execALdaImm imm s
  | .aLdxImm imm => Sys2Proof.Machine.execALdxImm imm s
  | .aLdyImm imm => Sys2Proof.Machine.execALdyImm imm s
  | .aLdiImm imm => Sys2Proof.Machine.execALdiImm imm s
  | .aLdaMem => Sys2Proof.Machine.execALdaMem s
  | .aLdxMem => Sys2Proof.Machine.execALdxMem s
  | .aLdyMem => Sys2Proof.Machine.execALdyMem s
  | .aStaMem => Sys2Proof.Machine.execAStaMem s
  | .aStxMem => Sys2Proof.Machine.execAStxMem s
  | .aStyMem => Sys2Proof.Machine.execAStyMem s
  | .aTax => Sys2Proof.Machine.execATax s
  | .aTay => Sys2Proof.Machine.execATay s
  | .aTai => Sys2Proof.Machine.execATai s
  | .aTxa => Sys2Proof.Machine.execATxa s
  | .aTxy => Sys2Proof.Machine.execATxy s
  | .aTxi => Sys2Proof.Machine.execATxi s
  | .aTya => Sys2Proof.Machine.execATya s
  | .aTyx => Sys2Proof.Machine.execATyx s
  | .aTyi => Sys2Proof.Machine.execATyi s
  | .aTia => Sys2Proof.Machine.execATia s
  | .aTix => Sys2Proof.Machine.execATix s
  | .aTiy => Sys2Proof.Machine.execATiy s
  -- Variant A jumps, calls, return and branches
  | .aJmp addr => Sys2Proof.Machine.execAJmp addr s
  | .aJmpI => Sys2Proof.Machine.execAJmpI s
  | .aCall addr => Sys2Proof.Machine.execACall addr s
  | .aCallI => Sys2Proof.Machine.execACallI s
  | .aRet => Sys2Proof.Machine.execARet s
  | .aBcsI => Sys2Proof.Machine.execABcsI s
  | .aBcsRel rel => Sys2Proof.Machine.execABcsRel rel s
  | .aBccI => Sys2Proof.Machine.execABccI s
  | .aBccRel rel => Sys2Proof.Machine.execABccRel rel s
  | .aBnsI => Sys2Proof.Machine.execABnsI s
  | .aBnsRel rel => Sys2Proof.Machine.execABnsRel rel s
  | .aBncI => Sys2Proof.Machine.execABncI s
  | .aBncRel rel => Sys2Proof.Machine.execABncRel rel s
  | .aBzsI => Sys2Proof.Machine.execABzsI s
  | .aBzsRel rel => Sys2Proof.Machine.execABzsRel rel s
  | .aBzcI => Sys2Proof.Machine.execABzcI s
  | .aBzcRel rel => Sys2Proof.Machine.execABzcRel rel s
  -- Variant A logic, arithmetic, compare, shift and rotate
  | .aAndImm imm => Sys2Proof.Machine.execAAndImm imm s
  | .aAndMem => Sys2Proof.Machine.execAAndMem s
  | .aAndX => Sys2Proof.Machine.execAAndX s
  | .aAndY => Sys2Proof.Machine.execAAndY s
  | .aOrImm imm => Sys2Proof.Machine.execAOrImm imm s
  | .aOrMem => Sys2Proof.Machine.execAOrMem s
  | .aOrX => Sys2Proof.Machine.execAOrX s
  | .aOrY => Sys2Proof.Machine.execAOrY s
  | .aXorImm imm => Sys2Proof.Machine.execAXorImm imm s
  | .aXorMem => Sys2Proof.Machine.execAXorMem s
  | .aXorX => Sys2Proof.Machine.execAXorX s
  | .aXorY => Sys2Proof.Machine.execAXorY s
  | .aAddImm imm => Sys2Proof.Machine.execAAddImm imm s
  | .aAddMem => Sys2Proof.Machine.execAAddMem s
  | .aAddX => Sys2Proof.Machine.execAAddX s
  | .aAddY => Sys2Proof.Machine.execAAddY s
  | .aSubImm imm => Sys2Proof.Machine.execASubImm imm s
  | .aSubMem => Sys2Proof.Machine.execASubMem s
  | .aSubX => Sys2Proof.Machine.execASubX s
  | .aSubY => Sys2Proof.Machine.execASubY s
  | .aCmpImm imm => Sys2Proof.Machine.execACmpImm imm s
  | .aCmpMem => Sys2Proof.Machine.execACmpMem s
  | .aCmpX => Sys2Proof.Machine.execACmpX s
  | .aCmpY => Sys2Proof.Machine.execACmpY s
  | .aShl => Sys2Proof.Machine.execAShl s
  | .aShr => Sys2Proof.Machine.execAShr s
  | .aRol => Sys2Proof.Machine.execARol s
  | .aRor => Sys2Proof.Machine.execARor s

end Sys2Proof.Machine
end

