-- ==== Sys2Proof/Machine/Cycle.lean ====
section
/-! DEFINITION. One cycle of the CPU (00_scope.md R7), the unknown opcode (60_exceptions.md R313), the host's moves
between runs (70_reset_and_hazards.md R340 to R347), and one step of the machine: while a run is active (R343) the
host's next display call, if one is due, else a cycle; outside a run the host's next move. -/

namespace Sys2Proof.Machine

/-- An unassigned opcode byte `op`, fetched from `addr` (R313): one diagnostic record and nothing else; no operand is
fetched. -/
def unknownOpcode (op : Byte) (addr : Word) (s : State) : State :=
  s.diag .unknownOpcode op addr

/-- One cycle (R7): the timers tick (R185), then the fetch, then the instruction. A held `LD Rx, K` is no step of the CPU
(44_b_timer_key.md R189): its sample, which had no key, is used up, and nothing else has changed (assumption 6). -/
def cycle (s : State) : Result :=
  match s.timerTick.fetchInstr with
  | (.ok (i, _), t) => if holds i t then .next s.consumeInput else andThen (exec i t) State.endCycle
  | (.error _, t) => .next (unknownOpcode (s.timerTick.read8 s.pc.toNat) s.pc t).endCycle

/-- The host's display call `move` during a run (70 R347), one step of its own (20_memory.md R87): the display changes,
and of the calls that fall before the next cycle those in `moves` are still to be made. -/
def State.hostCall (s : State) (move : DisplayMove) (moves : List DisplayMove) : State :=
  (s.displayMove move).keepMoves moves

/-- A step during a run: the oldest display call of the host that falls before the next cycle, else that cycle. -/
def runStep (s : State) : Result :=
  match s.sample.displayMoves with
  | move :: moves => .next (s.hostCall move moves)
  | [] => cycle s

/-- A move of the host between runs (70 R347). -/
def applyHostMove (s : State) : HostMove → State
  | .loadProgram image => s.loadProgram image
  | .run => s.startRun none
  | .runFor n => s.startRun (some n)
  | .writeByte addr v => s.write8 addr v
  | .writeWord addr v => s.write16 addr v
  | .memReset => s.memReset
  | .display move => s.displayMove move

/-- What happens when no run is active: the CPU takes no step (00_scope.md R8); the host makes its oldest move, or, if
it has none, nothing changes. -/
def hostStep (s : State) : State :=
  match s.hostMoves with
  | [] => s
  | move :: moves => applyHostMove (s.setHostMoves moves) move

/-- One step of the machine: a step of the run (R343) while one is active, else the host's. -/
def machineStep (s : State) : Result :=
  if s.runActive then runStep s else .next (hostStep s)

/-- The sample `withFetchWord` puts first (assumption 10): no tick, no key down, the key 0x00 pressed, no display
call; with it every instruction, `LD Rx, K` too, completes in the next step. -/
def readySample : Input where
  ticks := 0
  keysDown := []
  nextKey := some 0x00
  displayMoves := []

/-- The state whose next step fetches and runs a table word (assumption 10): the word's bytes at `pc`, the variant the
word is read in, a run started, and a sample with which no instruction holds. -/
def placeFetchWord (s : State) (nbits w : Nat) : State :=
  let placed := s.writeFetchBytes s.pc.toNat (tableWordBytes nbits w)
  let built := placed.setVariant (tableVariant nbits (BitVec.ofNat 8 w))
  (built.setInputs (readySample :: built.inputs) built.draws).startRun none

end Sys2Proof.Machine
end

