-- ==== Sys2Proof/Machine/Step.lean ====
section
/-! DEFINITION. The machine's step and the host's way to place an instruction where the step fetches. Both only call
Machine/Cycle.lean. -/

namespace Sys2Proof.Machine

/-- One step: while a run is active a display call of the host that is due, else a cycle (70_reset_and_hazards.md R343,
20_memory.md R87); outside a run the host's next move (00_scope.md R8). -/
def step (s : State) : Host.Outcome State Fault Refusal :=
  machineStep s

/-- The state whose next step fetches and runs the instruction whose word is `w` (assumption 10). -/
def State.withFetchWord (s : State) (nbits w : Nat) : State :=
  placeFetchWord s nbits w

end Sys2Proof.Machine
end

