-- ==== Sys2Proof/Machine/HostPort.lean ====
section
/-! DEFINITION. What the host and the snapshot reader can ask of the machine (70_reset_and_hazards.md R340 to R347,
20_memory.md R86). Queries change nothing, so they are functions of the state; one that R347 enables only when no run is
active answers none during a run. -/

namespace Sys2Proof.Machine

/-- `Construct(image)` (R340): reset of a build with parameters `p`, then the load. -/
def State.construct (p : Params) (image : List Byte) : State :=
  (State.resetWith p).loadProgram image

/-- A query enabled only when no run is active (R347). -/
def betweenRuns {α : Type} (s : State) (answer : α) : Option α :=
  if s.runActive then none else some answer

/-- `dump_memory()` (R345). -/
def dumpMemory (s : State) : Option (List Byte) :=
  betweenRuns s s.memCopy

/-- `fetch(addr)` of the raw memory port (R347; 20_memory.md R62). -/
def portFetch (s : State) (addr : Nat) : Option Byte :=
  betweenRuns s (s.read8 addr)

/-- `fetch_word(addr)` of the raw memory port (R347; 20_memory.md R63). -/
def portFetchWord (s : State) (addr : Nat) : Option Word :=
  betweenRuns s (s.read16 addr)

/-- `fetch_array(addr, len)` of the raw memory port (R347; 20_memory.md R68). -/
def portFetchArray (s : State) (addr len : Nat) : Option (List Byte) :=
  betweenRuns s (s.readArray addr len)

/-- `stack_pointer()` (R347; 10_state.md R29). -/
def stackPointer (s : State) : Option (BitVec 8) :=
  betweenRuns s s.sp

/-- `is_sound_active()` (R346): enabled at any time, in Variant B only. -/
def isSoundActive (s : State) : Option Bool :=
  match s.params.variant with
  | .b => some (s.st != 0)
  | .a => none

/-- `copy_bits()` (20_memory.md R86), at any time. -/
def displayBits (s : State) : List (List Bool) :=
  copyBits s.params s.disp

/-- `copy_bytes()` (20_memory.md R86), at any time. -/
def displayBytes (s : State) : List (List Byte) :=
  copyBytes s.params s.disp

/-- The answer of a call of the display port (20_memory.md R82 to R85). -/
def displayAnswer (s : State) (move : DisplayMove) : Bool :=
  (applyDisplayMove s.params s.disp move).1

/-- The diagnostic list as the host reads it (60_exceptions.md R312; R347). DESIGN CHOICE (assumption 20): the spec does
not say when the host may read it; here it may at any time, also during a run. -/
def diagnostics (s : State) : List DiagRecord :=
  s.diags

/-- How a run ended (R344). -/
inductive RunEnd where
  | halted
  | governed
  deriving DecidableEq, Repr

/-- How the last run ended (R344): halted if `running = 0`, else governed; none while a run is active. DESIGN CHOICE
(assumption 19): R344 gives an end only to a run that returned; before any run this answers halted. -/
def runEnd (s : State) : Option RunEnd :=
  betweenRuns s (if s.running then .governed else .halted)

/-- What `run(n)` returned (R343): the number of cycles executed; none while a run is active. DESIGN CHOICE (assumption
19): before any run this answers 0, and after `run()`, which returns no count, the cycles it executed. -/
def runResult (s : State) : Option Nat :=
  betweenRuns s s.executed

end Sys2Proof.Machine
end

