-- ==== Sys2Proof/Safety.lean ====
section
/-! DEFINITION. What claims about the machine are stated in: the parts of the state and frames over them, the access
summary of 10_state.md R39 and R40, the invariant of reachable states, and a few notions the spec states its laws with,
each written from the spec and not from the meanings. -/

namespace Sys2Proof.Machine

/-- The parts of State, one for each field. -/
inductive Part where
  | params | rx | ry | f | i | dt | st | a | x | y | c | n | z | pc | sp | stack | mem | disp | running | gov | diags | executed | inputs | draws | hostMoves
  deriving DecidableEq, Repr

/-- A part of `t` is as in `s`. Memory, the stack and the display are compared cell by cell, through the model's
reads. -/
def Part.Same (s t : State) : Part → Prop
  | .params => t.params = s.params
  | .rx => t.rx = s.rx
  | .ry => t.ry = s.ry
  | .f => t.f = s.f
  | .i => t.i = s.i
  | .dt => t.dt = s.dt
  | .st => t.st = s.st
  | .a => t.a = s.a
  | .x => t.x = s.x
  | .y => t.y = s.y
  | .c => t.c = s.c
  | .n => t.n = s.n
  | .z => t.z = s.z
  | .pc => t.pc = s.pc
  | .sp => t.sp = s.sp
  | .stack => ∀ k, t.slot k = s.slot k
  | .mem => ∀ addr, t.read8 addr = s.read8 addr
  | .disp => ∀ x y, t.cell x y = s.cell x y
  | .running => t.running = s.running
  | .gov => t.gov = s.gov
  | .diags => t.diags = s.diags
  | .executed => t.executed = s.executed
  | .inputs => t.inputs = s.inputs
  | .draws => t.draws = s.draws
  | .hostMoves => t.hostMoves = s.hostMoves

/-- Every part of the state but those listed is unchanged from `s` to `t`. -/
def Frame (touched : List Part) (s t : State) : Prop :=
  ∀ p, p ∉ touched → p.Same s t

/-- An instruction's rule, whole: its encoding is `bytes`; in every state it completes, in a state that meets `post`;
and it changes nothing but the parts listed. -/
def Effect (i : Instr) (bytes : List Byte) (touched : List Part) (post : State → State → Prop) : Prop :=
  encode i = bytes ∧ ∀ s, ∃ t, exec i s = .next t ∧ post s t ∧ Frame touched s t

/-- The state an instruction may write beyond the fetch, from the access summary (10_state.md R39, R40) with the flag
rules R25 and R26. -/
def writesOf : Instr → List Part
  | .bJp _ => [.pc]
  | .bCall _ => [.pc, .sp, .stack]
  | .bSeRxImm _ => [.pc]
  | .bSeRyImm _ => [.pc]
  | .bSneRxImm _ => [.pc]
  | .bSneRyImm _ => [.pc]
  | .bSeRxRy => [.pc]
  | .bLdRxImm _ => [.rx]
  | .bLdRyImm _ => [.ry]
  | .bAddRxImm _ => [.rx, .f]
  | .bAddRyImm _ => [.ry, .f]
  | .bLdRxRy => [.rx]
  | .bOr => [.rx]
  | .bAnd => [.rx]
  | .bXor => [.rx]
  | .bAddRxRy => [.rx, .f]
  | .bSub => [.rx, .f]
  | .bShr => [.rx, .f]
  | .bSubn => [.rx, .f]
  | .bLdRyRx => [.ry]
  | .bLdRxF => [.rx]
  | .bShl => [.rx, .f]
  | .bSneRxRy => [.pc]
  | .bLdI _ => [.i]
  | .bExit => [.running]
  | .bJpRx _ => [.pc]
  | .bDrw _ => [.f, .disp]
  | .bCls => [.disp]
  | .bSkp => [.pc]
  | .bSknp => [.pc]
  | .bRet => [.pc, .sp]
  | .bLdMemRx => [.mem]
  | .bLdMemRy => [.mem]
  | .bLdRxMem => [.rx]
  | .bBcd => [.mem]
  | .bLdRyMem => [.ry]
  | .bLdDtRx => [.dt]
  | .bLdRxDt => [.rx]
  | .bLdStRx => [.st]
  | .bLdRxK => [.rx]
  | .bAddIRx => [.i]
  | .aInt => [.diags]
  | .aHlt => [.running]
  | .aNop => []
  | .aLdaImm _ => [.a]
  | .aLdxImm _ => [.x]
  | .aLdyImm _ => [.y]
  | .aLdiImm _ => [.i]
  | .aLdaMem => [.a]
  | .aLdxMem => [.x]
  | .aLdyMem => [.y]
  | .aStaMem => [.mem]
  | .aStxMem => [.mem]
  | .aStyMem => [.mem]
  | .aTax => [.x]
  | .aTay => [.y]
  | .aTai => [.i]
  | .aTxa => [.a]
  | .aTxy => [.y]
  | .aTxi => [.i]
  | .aTya => [.a]
  | .aTyx => [.x]
  | .aTyi => [.i]
  | .aTia => [.a]
  | .aTix => [.x]
  | .aTiy => [.y]
  | .aJmp _ => [.pc]
  | .aJmpI => [.pc]
  | .aCall _ => [.pc, .sp, .stack]
  | .aCallI => [.pc, .sp, .stack]
  | .aRet => [.pc, .sp]
  | .aAndImm _ => [.a, .n, .z]
  | .aAndMem => [.a, .n, .z]
  | .aAndX => [.a, .n, .z]
  | .aAndY => [.a, .n, .z]
  | .aOrImm _ => [.a, .n, .z]
  | .aOrMem => [.a, .n, .z]
  | .aOrX => [.a, .n, .z]
  | .aOrY => [.a, .n, .z]
  | .aXorImm _ => [.a, .n, .z]
  | .aXorMem => [.a, .n, .z]
  | .aXorX => [.a, .n, .z]
  | .aXorY => [.a, .n, .z]
  | .aAddImm _ => [.a, .c, .n, .z]
  | .aAddMem => [.a, .c, .n, .z]
  | .aAddX => [.a, .c, .n, .z]
  | .aAddY => [.a, .c, .n, .z]
  | .aSubImm _ => [.a, .c, .n, .z]
  | .aSubMem => [.a, .c, .n, .z]
  | .aSubX => [.a, .c, .n, .z]
  | .aSubY => [.a, .c, .n, .z]
  | .aCmpImm _ => [.c, .n, .z]
  | .aCmpMem => [.c, .n, .z]
  | .aCmpX => [.c, .n, .z]
  | .aCmpY => [.c, .n, .z]
  | .aShl => [.a, .c, .n, .z]
  | .aShr => [.a, .c, .n, .z]
  | .aRol => [.a, .c, .n, .z]
  | .aRor => [.a, .c, .n, .z]
  | .aBcsI => [.pc]
  | .aBcsRel _ => [.pc]
  | .aBccI => [.pc]
  | .aBccRel _ => [.pc]
  | .aBnsI => [.pc]
  | .aBnsRel _ => [.pc]
  | .aBncI => [.pc]
  | .aBncRel _ => [.pc]
  | .aBzsI => [.pc]
  | .aBzsRel _ => [.pc]
  | .aBzcI => [.pc]
  | .aBzcRel _ => [.pc]

/-- What holds of every reachable state: legal parameters (00_scope.md R4), main memory and the display in canonical
form and within their sizes (20_memory.md R60, 10_state.md R34), F 0x00 or 0x01 (10_state.md R25), N and Z not both 1
(48_a_alu.md R271). -/
abbrev State.Inv (s : State) : Prop :=
  s.params.wf ∧ Memory.wf s.mem ∧ CellsWf (s.params.width * s.params.height) s.disp ∧ (s.f = 0x00 ∨ s.f = 0x01) ∧
    ¬(s.n = true ∧ s.z = true)

/-- `Len(op)`, spelled out as in the table of 30_encoding.md R106. -/
def specLen : Variant → Byte → Nat
  | .b, op =>
    if op ∈ [0x10, 0x20, 0xA0, 0xB0] then 3
    else if op ∈ [0x30, 0x31, 0x40, 0x41, 0x60, 0x61, 0x70, 0x71, 0xD0] then 2
    else 1
  | .a, op =>
    if op ∈ [0x03, 0x04, 0x05, 0x06, 0x20, 0x22, 0x30, 0x34, 0x38, 0x40, 0x44, 0x48] then 3
    else if op ∈ [0x51, 0x53, 0x55, 0x57, 0x59, 0x5B] then 2
    else 1

/-- The bytes a fetch at `pc` sees: three bytes of memory, but a word operand that begins at 0xFFFF reads 0x0000
(20_memory.md R67, 30_encoding.md R107). -/
def State.bytesAtPc (s : State) : List Byte :=
  if s.pc = 0xFFFE ∧ specLen s.params.variant (s.read8 0xFFFE) = 3 then [s.read8 0xFFFE, 0x00, 0x00]
  else [s.read8 s.pc.toNat, s.read8 (s.pc.toNat + 1), s.read8 (s.pc.toNat + 2)]

/-- The CPU waits for a key (44_b_timer_key.md R189): the opcode at `pc` is `LD Rx, K` and no key is pressed. -/
abbrev State.waitsForKey (s : State) : Prop :=
  s.params.variant = .b ∧ s.read8 s.pc.toNat = 0xFA ∧ s.nextKey = none

/-- Bit `7 - j` of row `i` of a sprite at `(x, y)` is 1 and its cell lies inside the grid (20_memory.md R85): the sprite
toggles the cell at column `x mod W + j`, row `y mod H + i`. -/
def SpriteBit (p : Params) (bytes : List Byte) (x y i j : Nat) : Prop :=
  i < bytes.length ∧ j < 8 ∧ (bytes.getD i 0).getLsbD (7 - j) = true ∧ x % p.width + j < p.width ∧
    y % p.height + i < p.height

/-- The cycle is the next step: a run is active, and no display call of the host is left to be made before the cycle
(assumption 5). -/
abbrev State.cycleDue (s : State) : Prop :=
  s.runActive = true ∧ s.sample.displayMoves = []

/-- A word write (20_memory.md R65) from `s` to `t`: the high byte, then the low byte at the next address; at 0xFFFF by
`WRITE_WORD_TOP`; no other byte changes. -/
def WordWritten (addr : Nat) (v : Word) (s t : State) : Prop :=
  let addr0 := addr % 65536
  (addr0 ≠ 0xFFFF → ∀ b, b < 65536 → (t.read8 b).toNat =
    if b = addr0 then v.toNat / 256 else if b = addr0 + 1 then v.toNat % 256 else (s.read8 b).toNat) ∧
  (addr0 = 0xFFFF → ∀ b, b < 65536 → (t.read8 b).toNat =
    if b = 0xFFFF ∧ s.params.wordTop ≠ .reject then v.toNat / 256
    else if b = 0 ∧ s.params.wordTop = .wrap then v.toNat % 256 else (s.read8 b).toNat)

/-- A load (70_reset_and_hazards.md R341) from `s` to `t`: the image from `pc` up, without the bytes past 0xFFFF, and
then `pc` from the big-endian word at address 0. -/
def ImageLoaded (image : List Byte) (s t : State) : Prop :=
  (∀ addr, addr < 65536 → t.read8 addr =
    if s.pc.toNat ≤ addr ∧ addr < s.pc.toNat + image.length then image.getD (addr - s.pc.toNat) 0
    else s.read8 addr) ∧
  t.pc.toNat = (t.read8 0).toNat * 256 + (t.read8 1).toNat

/-- The cells after a call of the display port (20_memory.md R82 to R85). A drawn sprite is what
`Obligations.SpriteTogglesItsSetBits` says of `drawSprite`. -/
def DisplayEffect (s t : State) : DisplayMove → Prop
  | .setPixel x y => ∀ cx cy, t.cell cx cy =
      if cx = x ∧ cy = y ∧ x < s.params.width ∧ y < s.params.height then
        if s.cell x y = 0x00 then s.params.pixelOn else 0x00
      else s.cell cx cy
  | .setPixelColor x y color => ∀ cx cy, t.cell cx cy =
      if cx = x ∧ cy = y ∧ x < s.params.width ∧ y < s.params.height then color else s.cell cx cy
  | .clear => ∀ cx cy, t.cell cx cy = 0x00
  | .drawSprite bytes x y => ∀ cx cy, t.cell cx cy = getCell s.params (drawSprite s.params s.disp bytes x y).2 cx cy

/-- What a move of the host between runs may change (70_reset_and_hazards.md R341, R343, R347). -/
def hostTouches : HostMove → List Part
  | .loadProgram _ => [.mem, .pc]
  | .run => [.running, .gov, .executed]
  | .runFor _ => [.running, .gov, .executed]
  | .writeByte _ _ => [.mem]
  | .writeWord _ _ => [.mem]
  | .memReset => [.mem]
  | .display _ => [.disp]

/-- What a move of the host between runs does (70_reset_and_hazards.md R341, R343, R347; 20_memory.md R64, R65, R69,
R82 to R85). -/
def HostEffect (s t : State) : HostMove → Prop
  | .loadProgram image => ImageLoaded image s t
  | .run => t.running = true ∧ t.gov = none ∧ t.executed = 0
  | .runFor n => t.running = true ∧ t.gov = some n ∧ t.executed = 0
  | .writeByte addr v => ∀ b, t.read8 b = if b % 65536 = addr % 65536 then v else s.read8 b
  | .writeWord addr v => WordWritten addr v s t
  | .memReset => ∀ b, t.read8 b = 0x00
  | .display move => DisplayEffect s t move

/-- Values pushed one after another (20_memory.md R78). -/
def pushAll (s : State) : List Word → State
  | [] => s
  | v :: vs => pushAll (s.push v) vs

/-- The values `k` pops return, in order, with the state they leave (20_memory.md R78). -/
def popAll (s : State) : Nat → List Word × State
  | 0 => ([], s)
  | k + 1 => (s.top :: (popAll s.pop k).1, (popAll s.pop k).2)

/-- The state without what no program can read (10_state.md R27, 60_exceptions.md R312): ST, the running flag, the
governor and the run loop's count, the diagnostic list. -/
def State.visible (s : State) : State :=
  { s with st := 0, running := false, gov := none, executed := 0, diags := [] }

end Sys2Proof.Machine
end

