-- ==== Sys2Proof/Certificates/Slice0/Obligations.lean ====
section
/-! DEFINITION. The statements for the provers. -/

open Sys2Proof Sys2Proof.Machine

/-! ### Reset, parameters, invariant -/

/-- R38: every piece of architectural state after reset, before the load, for every build. -/
def Obligations.ResetLeavesEverythingZero : Prop :=
  ∀ p : Params,
    let s := State.resetWith p
    s.rx = 0x00 ∧ s.ry = 0x00 ∧ s.f = 0x00 ∧ s.dt = 0x00 ∧ s.st = 0x00 ∧
    s.a = 0x0000 ∧ s.x = 0x0000 ∧ s.y = 0x0000 ∧ s.i = 0x0000 ∧
    s.c = false ∧ s.n = false ∧ s.z = false ∧ s.pc = 0x0000 ∧ s.sp = 0 ∧
    (∀ k, s.slot k = 0x0000) ∧ (∀ addr, s.read8 addr = 0x00) ∧ (∀ x y, s.cell x y = 0x00) ∧
    s.running = false ∧ s.gov = none ∧ s.diags = []

/-- `State.Inv` holds at the reset of every build with legal parameters (R4), and so at `State.reset`. The default
parameters and the canonical form are the model's (assumptions 2, 13). -/
def Obligations.ResetMeetsInvariant : Prop :=
  (∀ p : Params, p.wf → (State.resetWith p).Inv) ∧ State.reset.Inv

/-- Every step keeps `State.Inv`: legal parameters (R4), canonical memory (R60) and display within its size (R34),
F 0x00 or 0x01 (R25), N and Z not both 1 (R271). The canonical form is the model's (assumption 13). -/
def Obligations.StepKeepsInvariant : Prop :=
  ∀ s t : State, s.Inv → step s = .next t → t.Inv

/-- R4: the parameters never change while the machine runs, and so the display is never resized (R34). That they stand
in State is the model's (assumption 1). -/
def Obligations.StepKeepsParameters : Prop :=
  ∀ s t : State, step s = .next t → t.params = s.params

/-! ### Encoding and fetch -/

/-- Every well-formed instruction decodes from its encoding, at every value of its operand, whatever bytes follow. -/
def Obligations.DecodeOfEncode : Prop :=
  ∀ (v : Variant) (i : Instr) (rest : List Byte),
    i.wellFormed v = true → decode v (encode i ++ rest) = .ok (i, rest)

/-- Each decodable byte string begins with the encoding of what it decodes to, an instruction of the active variant: no
two encodings of one variant overlap. -/
def Obligations.EncodeOfDecode : Prop :=
  ∀ (v : Variant) (bytes : List Byte) (i : Instr) (rest : List Byte),
    decode v bytes = .ok (i, rest) → bytes = encode i ++ rest ∧ i.wellFormed v = true

/-- A word of each family, written out from the bytes the rules give. -/
def Obligations.WordsDecodeAsTheRulesSay : Prop :=
  decode .b [0x10, 0x12, 0x34] = .ok (.bJp 0x1234, []) ∧
  decode .b [0x41, 0x00] = .ok (.bSneRyImm 0x00, []) ∧
  decode .b [0x71, 0xFF] = .ok (.bAddRyImm 0xFF, []) ∧
  decode .b [0x8E] = .ok (.bShl, []) ∧
  decode .b [0xF3] = .ok (.bBcd, []) ∧
  decode .b [0xFA] = .ok (.bLdRxK, []) ∧
  decode .b [0xD0, 0x02] = .ok (.bDrw 0x02, []) ∧
  decode .a [0x03, 0x7F, 0xFF] = .ok (.aLdaImm 0x7FFF, []) ∧
  decode .a [0x5B, 0xF7] = .ok (.aBzcRel 0xF7, []) ∧
  decode .a [0x44, 0x00, 0x01] = .ok (.aSubImm 0x0001, []) ∧
  decode .a [0xE0] = .error (.unassigned 0xE0)

/-- R106, R66, R67, R102: the fetch of every opcode byte, assigned or not, advances `pc` by the `Len` of R106 modulo
65536 and changes nothing else; R109: it gives an instruction of the active variant or "unassigned", never less. -/
def Obligations.FetchAdvancesByLength : Prop :=
  ∀ s : State,
    let op := s.read8 s.pc.toNat
    s.fetchInstr.2.pc.toNat = (s.pc.toNat + specLen s.params.variant op) % 65536 ∧
    Frame [.pc] s s.fetchInstr.2 ∧
    ((∃ i, s.fetchInstr.1 = .ok (i, []) ∧ i.wellFormed s.params.variant = true) ∨
      s.fetchInstr.1 = .error (.unassigned op))

/-- What a step in a run is. Where a display call of the host is left to be made before the next cycle, the step is that
call (R87, R347): it changes the cells as the call does, the call is no longer to come, and nothing else changes. Else,
where the bytes at `pc` decode to `i`, and `i` is not waiting for a key, the step is `exec i` from the state with the
timers ticked and `pc` past the instruction, and the run loop's bookkeeping after it. That a call comes before the cycle
whose sample lists it is the model's (assumption 5). -/
def Obligations.StepRunsDecodedInstruction : Prop :=
  (∀ (s : State) (move : DisplayMove) (moves : List DisplayMove),
    s.runActive = true → s.sample.displayMoves = move :: moves →
    ∃ t, step s = .next t ∧ DisplayEffect s t move ∧ t.sample = { s.sample with displayMoves := moves } ∧
      Frame [.disp, .inputs, .draws] s t) ∧
  ∀ (s : State) (i : Instr) (rest : List Byte),
    s.cycleDue → decode s.params.variant s.bytesAtPc = .ok (i, rest) → (i = .bLdRxK → s.nextKey ≠ none) →
    step s = andThen
      (exec i (s.timerTick.setPc (s.pc + BitVec.ofNat 16 (encode i).length))) State.endCycle

/-! ### The run loop and the whole machine -/

/-- No step and no instruction faults or is refused. R310 gives every cycle in every state exactly one successor but for
the hold of R189: that the step of a held `LD Rx, K`, and `exec` of it with no key, answer a next state is the model's
(assumption 6), and so is that a step outside a run with no move of the host answers the same state (assumption 4). -/
def Obligations.NothingStopsTheMachine : Prop :=
  (∀ s : State, ∃ t, step s = .next t) ∧ ∀ (i : Instr) (s : State), ∃ t, exec i s = .next t

/-- R313, R108: an unassigned opcode is a one-byte no-op with one diagnostic record; the timers were ticked and the
cycle counts. That the host's display calls come first and a sample is used up is the model's (assumptions 3, 5). -/
def Obligations.UnknownOpcodeIsOneByteNoOp : Prop :=
  ∀ s : State, s.cycleDue →
    (∀ i rest, decode s.params.variant s.bytesAtPc ≠ .ok (i, rest)) →
    ∃ t, step s = .next t ∧ t.pc.toNat = (s.pc.toNat + 1) % 65536 ∧
      t.diags = s.diags ++ [⟨.unknownOpcode, s.read8 s.pc.toNat, s.pc⟩] ∧
      t.dt = s.timerTick.dt ∧ t.st = s.timerTick.st ∧
      t.executed = s.executed + 1 ∧ t.gov = s.gov.map (· - 1) ∧
      Frame [.pc, .diags, .dt, .st, .executed, .gov, .inputs, .draws] s t

/-- R189: with no key, `LD Rx, K` holds: a step changes nothing of the machine, counts no cycle and ticks no timer; only
the environment's sample is used up. Where a display call of the host is to be made first, the step is that call: it
changes the cells as the call does, and the wait goes on with the calls that are left. That the wait is a step that uses
up a sample, and that the calls come first, is the model's (assumptions 3, 5, 6). -/
def Obligations.KeyWaitHolds : Prop :=
  ∀ s : State, s.runActive = true → s.waitsForKey →
    ∃ t, step s = .next t ∧
      (s.sample.displayMoves = [] → Frame [.inputs, .draws] s t) ∧
      ∀ move moves, s.sample.displayMoves = move :: moves →
        DisplayEffect s t move ∧ t.runActive = true ∧ t.waitsForKey ∧ t.sample.displayMoves = moves ∧
          Frame [.disp, .inputs, .draws] s t

/-- R343: a cycle that is not a key wait adds one to the count and takes one from the governor, which was not 0; without
a governor there is none after. A display call of the host during a run is no cycle and changes neither. That the count
stands in State, and that such a call is a step, is the model's (assumptions 5, 8). -/
def Obligations.GovernorCountsEveryCycle : Prop :=
  ∀ s : State, s.runActive = true →
    (s.sample.displayMoves = [] → ¬s.waitsForKey →
      ∃ t, step s = .next t ∧ t.executed = s.executed + 1 ∧
        (∀ g, s.gov = some g → 0 < g ∧ t.gov = some (g - 1)) ∧ (s.gov = none → t.gov = none)) ∧
    (s.sample.displayMoves ≠ [] → ∃ t, step s = .next t ∧ t.executed = s.executed ∧ t.gov = s.gov)

/-- R343: `run(n)` never executes more than `n` cycles; at every moment of the run, however long, cycles executed and
governor left make `n`, and if the run has ended and not by a halt, exactly `n` were executed. That the count stands in
State is the model's (assumption 8). -/
def Obligations.GovernorBoundsTheRun : Prop :=
  ∀ (s t : State) (n steps : Nat), s.hostMoves = [] →
    Sys2Proof.core.run steps (s.startRun (some n)) = .next t →
    t.executed ≤ n ∧ t.gov = some (n - t.executed) ∧
      (t.runActive = false → t.running = true → t.executed = n)

/-- R123, R201, R344: a halt instruction, reached in a run, ends it; the halting cycle counts, and `pc` is left at the
byte after the opcode. That the host's display calls come before the cycle is the model's (assumption 5), and so is that
the count stands in State (assumption 8). R343 gives a returned count to `run(n)` alone: that `runResult` answers the
count after `run()` too is the model's (assumption 19). -/
def Obligations.HaltEndsTheRun : Prop :=
  ∀ s : State, s.cycleDue →
    (s.params.variant = .b ∧ s.read8 s.pc.toNat = 0xAA ∨ s.params.variant = .a ∧ s.read8 s.pc.toNat = 0x01) →
    ∃ t, step s = .next t ∧ t.running = false ∧ t.runActive = false ∧ runEnd t = some .halted ∧
      runResult t = some (s.executed + 1) ∧ t.pc.toNat = (s.pc.toNat + 1) % 65536

/-- R8, R343, R347: outside a run the CPU takes no step. Each move of the host, a load, `run()`, `run(n)`, a write or
reset of the raw memory port, a call of the display port, has its effect and changes nothing else; without a move
nothing changes. That the host's moves are taken from a queue is the model's (assumption 4). -/
def Obligations.OutsideARunOnlyTheHostActs : Prop :=
  ∀ s : State, s.runActive = false →
    (s.hostMoves = [] → step s = .next s) ∧
    ∀ move moves, s.hostMoves = move :: moves →
      ∃ t, step s = .next t ∧ t = applyHostMove (s.setHostMoves moves) move ∧ t.hostMoves = moves ∧
        HostEffect s t move ∧ Frame (.hostMoves :: hostTouches move) s t

/-- R341: `load_program` copies the image from `pc` up, drops the bytes past 0xFFFF, sets `pc` to the big-endian word
at address 0 and changes nothing else. -/
def Obligations.LoadProgramCopiesImage : Prop :=
  ∀ (s : State) (image : List Byte),
    ImageLoaded image s (s.loadProgram image) ∧ Frame [.mem, .pc] s (s.loadProgram image)

/-- R39, R40, R25, R26: whatever the state, an instruction changes only what the access summary lets it write. -/
def Obligations.InstructionsWriteOnlyWhatTheSummaryLists : Prop :=
  ∀ (i : Instr) (s t : State), exec i s = .next t → Frame (writesOf i) s t

/-- R39, R40, R20: no step of one variant touches the other variant's registers; a Variant A cycle leaves the
display, which only a display call of the host changes. That both variants' registers stand in one State is the model's
(assumptions 5, 14). -/
def Obligations.VariantsKeepApart : Prop :=
  ∀ s t : State, step s = .next t →
    (s.params.variant = .b → t.a = s.a ∧ t.x = s.x ∧ t.y = s.y ∧ t.c = s.c ∧ t.n = s.n ∧ t.z = s.z) ∧
    (s.params.variant = .a →
      t.rx = s.rx ∧ t.ry = s.ry ∧ t.f = s.f ∧ t.dt = s.dt ∧ t.st = s.st ∧
      (s.runActive = true → s.sample.displayMoves = [] → ∀ x y, t.cell x y = s.cell x y))

/-- R312, R316: the diagnostic list is append-only, and a step appends at most one record. That it stands in State is
the model's (assumption 9). -/
def Obligations.DiagnosticsAreAppendOnly : Prop :=
  ∀ s t : State, step s = .next t → ∃ l, t.diags = s.diags ++ l ∧ l.length ≤ 1

/-- R27, R312: no instruction reads ST, the running flag, the governor, the executed count or the diagnostic list: two
states that differ in these alone give states that differ in these alone. -/
def Obligations.ProgramsCannotReadHiddenState : Prop :=
  ∀ (i : Instr) (s s' : State), s.visible = s'.visible →
    ∃ t t', exec i s = .next t ∧ exec i s' = .next t' ∧ t.visible = t'.visible

/-! ### Memory, stack, display, timers -/

/-- R62, R64: a byte write is read back at its address modulo 65536, and changes no other byte and nothing else. -/
def Obligations.ByteWriteIsReadBack : Prop :=
  ∀ (s : State) (addr : Nat) (v : Byte),
    (∀ addr', (s.write8 addr v).read8 addr' = if addr' % 65536 = addr % 65536 then v else s.read8 addr') ∧
    Frame [.mem] s (s.write8 addr v)

/-- R63: a word read is big-endian, and 0x0000 at the top address. -/
def Obligations.WordReadIsBigEndian : Prop :=
  ∀ (s : State) (addr : Nat),
    (s.read16 addr).toNat =
      if addr % 65536 = 0xFFFF then 0 else (s.read8 addr).toNat * 256 + (s.read8 (addr + 1)).toNat

/-- R65: a word write stores the high byte, then the low byte at the next address; at 0xFFFF it is rejected, stores the
high byte alone or wraps, by `WRITE_WORD_TOP`; no other byte and nothing else changes. -/
def Obligations.WordWriteStoresTwoBytes : Prop :=
  ∀ (s : State) (addr : Nat) (v : Word),
    WordWritten addr v s (s.write16 addr v) ∧ Frame [.mem] s (s.write16 addr v)

/-- R93: a written byte is read back at every address; a written word at every address but 0xFFFF, where the read is
0x0000, so that the law fails there for every value but 0x0000. -/
def Obligations.WritesAreReadBack : Prop :=
  ∀ (s : State) (addr : Nat),
    (∀ v : Byte, (s.write8 addr v).read8 addr = v) ∧
    ∀ v : Word, (s.write16 addr v).read16 addr = if addr % 65536 = 0xFFFF then 0x0000 else v

/-- R68: an array read gives the bytes from the start address up, truncated at the top of memory. -/
def Obligations.ArrayReadTruncatesAtTheTop : Prop :=
  ∀ (s : State) (addr len : Nat),
    (s.readArray addr len).length = min len (65536 - addr % 65536) ∧
    ∀ k, k < min len (65536 - addr % 65536) → (s.readArray addr len)[k]? = some (s.read8 (addr % 65536 + k))

/-- R78: pops after pushes return the values in reverse order, for any number of pushes and up to 256 pops; `sp` moves
with them. -/
def Obligations.RingReversesPushes : Prop :=
  ∀ (s : State) (vs : List Word) (k : Nat), k ≤ vs.length → k ≤ 256 →
    (popAll (pushAll s vs) k).1 = vs.reverse.take k ∧
    (popAll (pushAll s vs) k).2.sp.toNat = (s.sp.toNat + (vs.length - k)) % 256

/-- R82: toggling a cell reports whether it was on, turns an off cell to `PIXEL_ON` and an on cell off, and changes no
other cell; outside the grid nothing changes and the answer is false. -/
def Obligations.TogglePixelReportsCollision : Prop :=
  ∀ (p : Params) (d : List Host.Cell) (x y x' y' : Nat),
    let old := getCell p d x y
    (x < p.width ∧ y < p.height →
      (setPixel p d x y).1 = (old != 0x00) ∧
      getCell p (setPixel p d x y).2 x' y' =
        if x' = x ∧ y' = y then (if old = 0x00 then p.pixelOn else 0x00) else getCell p d x' y') ∧
    (¬(x < p.width ∧ y < p.height) → setPixel p d x y = (false, d))

/-- R85: a sprite toggles exactly the cells of its set bits inside the grid, its origin taken modulo the grid. -/
def Obligations.SpriteTogglesItsSetBits : Prop :=
  ∀ (p : Params) (d : List Host.Cell) (bytes : List Byte) (x y cx cy : Nat), 1 ≤ p.width → 1 ≤ p.height →
    let old := getCell p d cx cy
    ((∃ i j, SpriteBit p bytes x y i j ∧ cx = x % p.width + j ∧ cy = y % p.height + i) →
      getCell p (drawSprite p d bytes x y).2 cx cy = if old = 0x00 then p.pixelOn else 0x00) ∧
    ((¬∃ i j, SpriteBit p bytes x y i j ∧ cx = x % p.width + j ∧ cy = y % p.height + i) →
      getCell p (drawSprite p d bytes x y).2 cx cy = old)

/-- R85: the answer of a sprite draw is the collision state of the last cell toggled, in row-major order, and false
when none was. -/
def Obligations.SpriteReportsTheLastToggle : Prop :=
  ∀ (p : Params) (d : List Host.Cell) (bytes : List Byte) (x y : Nat), 1 ≤ p.width → 1 ≤ p.height →
    ((drawSprite p d bytes x y).1 = true ↔
      ∃ i j, SpriteBit p bytes x y i j ∧ getCell p d (x % p.width + j) (y % p.height + i) ≠ 0x00 ∧
        ∀ i' j', SpriteBit p bytes x y i' j' → i' < i ∨ (i' = i ∧ j' ≤ j))

/-- R185: both timers count down by the same `ticks` and stop at 0; Variant A ignores `ticks`; nothing else changes.
That `ticks` is the sample's is the model's (assumption 3). -/
def Obligations.TimersCountDownToZero : Prop :=
  ∀ s : State,
    Frame [.dt, .st] s s.timerTick ∧
    (s.params.variant = .b →
      s.timerTick.dt.toNat = s.dt.toNat - min s.dt.toNat s.sample.ticks ∧
      s.timerTick.st.toNat = s.st.toNat - min s.st.toNat s.sample.ticks) ∧
    (s.params.variant = .a → s.timerTick = s)

/-! ### Control transfer and system instructions -/

/-- R120, R122, R240, R241: the jumps. -/
def Obligations.JumpsGoToTheirTarget : Prop :=
  ∀ addr : Word,
    Effect (.bJp addr) [0x10, hiByte addr, loByte addr] [.pc] (fun _ t => t.pc = addr) ∧
    Effect (.bJpRx addr) [0xB0, hiByte addr, loByte addr] [.pc]
      (fun s t => t.pc.toNat = (addr.toNat + s.rx.toNat) % 65536) ∧
    Effect (.aJmp addr) [0x20, hiByte addr, loByte addr] [.pc] (fun _ t => t.pc = addr) ∧
    Effect .aJmpI [0x21] [.pc] (fun s t => t.pc = s.i)

/-- R121, R242, R243 with R76: a call increments `sp` modulo 256, stores the address after the instruction in the slot
`sp` then names, and jumps; the other slots are kept. R124, R244 with R77: a return jumps to the value in the slot `sp`
names and decrements `sp` modulo 256; the slots are kept. -/
def Obligations.CallsPushAndReturnsPop : Prop :=
  ∀ addr : Word,
    let pushed (target : State → Word) (s t : State) : Prop :=
      t.pc = target s ∧ t.sp.toNat = (s.sp.toNat + 1) % 256 ∧ t.slot t.sp = s.pc ∧
        ∀ k, k ≠ t.sp → t.slot k = s.slot k
    let popped (s t : State) : Prop := t.pc = s.slot s.sp ∧ t.sp.toNat = (s.sp.toNat + 255) % 256
    Effect (.bCall addr) [0x20, hiByte addr, loByte addr] [.pc, .sp, .stack] (pushed fun _ => addr) ∧
    Effect (.aCall addr) [0x22, hiByte addr, loByte addr] [.pc, .sp, .stack] (pushed fun _ => addr) ∧
    Effect .aCallI [0x23] [.pc, .sp, .stack] (pushed fun s => s.i) ∧
    Effect .bRet [0xEE] [.pc, .sp] popped ∧ Effect .aRet [0x24] [.pc, .sp] popped

/-- R123, R201: the halts clear the running flag and nothing else; R202: `NOP` changes nothing; R200: `INT` appends
the record (unimplemented, 0x00, address of its opcode) and changes nothing else. -/
def Obligations.SystemInstructions : Prop :=
  Effect .bExit [0xAA] [.running] (fun _ t => t.running = false) ∧
  Effect .aHlt [0x01] [.running] (fun _ t => t.running = false) ∧
  Effect .aNop [0x02] [] (fun _ _ => True) ∧
  Effect .aInt [0x00] [.diags]
    (fun s t => ∃ addr : Word, s.pc.toNat = (addr.toNat + 1) % 65536 ∧
      t.diags = s.diags ++ [⟨.unimplemented, 0x00, addr⟩])

/-! ### Variant B skips -/

/-- R131 to R134 with R130: skips on an immediate, by the `Len` of the opcode byte at `pc`. -/
def Obligations.SkipsOnImmediates : Prop :=
  ∀ k : Byte,
    let skipped (cond : State → Prop) (s t : State) : Prop :=
      (cond s → t.pc.toNat = (s.pc.toNat + specLen .b (s.read8 s.pc.toNat)) % 65536) ∧ (¬cond s → t.pc = s.pc)
    Effect (.bSeRxImm k) [0x30, k] [.pc] (skipped fun s => s.rx = k) ∧
    Effect (.bSeRyImm k) [0x31, k] [.pc] (skipped fun s => s.ry = k) ∧
    Effect (.bSneRxImm k) [0x40, k] [.pc] (skipped fun s => s.rx ≠ k) ∧
    Effect (.bSneRyImm k) [0x41, k] [.pc] (skipped fun s => s.ry ≠ k)

/-- R135, R136 with R130: skips on the two registers. -/
def Obligations.SkipsOnRegisters : Prop :=
  let skipped (cond : State → Prop) (s t : State) : Prop :=
    (cond s → t.pc.toNat = (s.pc.toNat + specLen .b (s.read8 s.pc.toNat)) % 65536) ∧ (¬cond s → t.pc = s.pc)
  Effect .bSeRxRy [0x50] [.pc] (skipped fun s => s.rx = s.ry) ∧
  Effect .bSneRxRy [0x90] [.pc] (skipped fun s => s.rx ≠ s.ry)

/-- The skips on the keyboard's answer for the key in Rx (41_b_skip.md). That the answer is "yes" for exactly the codes
the sample lists is the model's (assumptions 3, 16). -/
def Obligations.SkipsOnKeys : Prop :=
  let skipped (cond : State → Prop) (s t : State) : Prop :=
    (cond s → t.pc.toNat = (s.pc.toNat + specLen .b (s.read8 s.pc.toNat)) % 65536) ∧ (¬cond s → t.pc = s.pc)
  Effect .bSkp [0xE9] [.pc] (skipped fun s => s.rx ∈ s.sample.keysDown) ∧
  Effect .bSknp [0xEA] [.pc] (skipped fun s => s.rx ∉ s.sample.keysDown)

/-! ### Variant B loads and arithmetic -/

/-- R145, R146, R149, R157, R158: plain loads and copies write one register and no flag. -/
def Obligations.ByteLoadsAndCopies : Prop :=
  ∀ k : Byte,
    Effect (.bLdRxImm k) [0x60, k] [.rx] (fun _ t => t.rx = k) ∧
    Effect (.bLdRyImm k) [0x61, k] [.ry] (fun _ t => t.ry = k) ∧
    Effect .bLdRxRy [0x80] [.rx] (fun s t => t.rx = s.ry) ∧
    Effect .bLdRyRx [0x88] [.ry] (fun s t => t.ry = s.rx) ∧
    Effect .bLdRxF [0x89] [.rx] (fun s t => t.rx = s.f)

/-- R150, R151, R152: bitwise operations on Rx, bit by bit, with F unchanged. -/
def Obligations.ByteLogicLeavesF : Prop :=
  Effect .bOr [0x81] [.rx] (fun s t => ∀ k, k < 8 → t.rx.getLsbD k = (s.rx.getLsbD k || s.ry.getLsbD k)) ∧
  Effect .bAnd [0x82] [.rx] (fun s t => ∀ k, k < 8 → t.rx.getLsbD k = (s.rx.getLsbD k && s.ry.getLsbD k)) ∧
  Effect .bXor [0x83] [.rx] (fun s t => ∀ k, k < 8 → t.rx.getLsbD k = (s.rx.getLsbD k != s.ry.getLsbD k))

/-- R147, R148, R153: 8-bit additions wrap, and F is 0x01 exactly when the sum exceeds 255. -/
def Obligations.ByteAdditionsSetCarry : Prop :=
  ∀ k : Byte,
    Effect (.bAddRxImm k) [0x70, k] [.rx, .f] (fun s t => t.rx.toNat = (s.rx.toNat + k.toNat) % 256 ∧
      t.f = if s.rx.toNat + k.toNat > 255 then 0x01 else 0x00) ∧
    Effect (.bAddRyImm k) [0x71, k] [.ry, .f] (fun s t => t.ry.toNat = (s.ry.toNat + k.toNat) % 256 ∧
      t.f = if s.ry.toNat + k.toNat > 255 then 0x01 else 0x00) ∧
    Effect .bAddRxRy [0x84] [.rx, .f] (fun s t => t.rx.toNat = (s.rx.toNat + s.ry.toNat) % 256 ∧
      t.f = if s.rx.toNat + s.ry.toNat > 255 then 0x01 else 0x00)

/-- R154, R156: 8-bit subtractions wrap, and F is 0x01 exactly when a borrow happened. -/
def Obligations.ByteSubtractionsSetBorrow : Prop :=
  Effect .bSub [0x85] [.rx, .f] (fun s t => (t.rx.toNat : Int) = ((s.rx.toNat : Int) - s.ry.toNat) % 256 ∧
    t.f = if s.rx.toNat < s.ry.toNat then 0x01 else 0x00) ∧
  Effect .bSubn [0x87] [.rx, .f] (fun s t => (t.rx.toNat : Int) = ((s.ry.toNat : Int) - s.rx.toNat) % 256 ∧
    t.f = if s.ry.toNat < s.rx.toNat then 0x01 else 0x00)

/-- R155, R159: shifts of Rx by one fill with 0 and put the bit shifted out into F. -/
def Obligations.ByteShiftsSetF : Prop :=
  Effect .bShr [0x86] [.rx, .f] (fun s t => t.rx.toNat = s.rx.toNat / 2 ∧ t.f.toNat = s.rx.toNat % 2) ∧
  Effect .bShl [0x8E] [.rx, .f] (fun s t => t.rx.toNat = s.rx.toNat * 2 % 256 ∧ t.f.toNat = s.rx.toNat / 128)

/-! ### Variant B index register, memory, BCD -/

/-- R170, R171: `LD I` and `ADD I, Rx`, which wraps modulo 65536; F unchanged. -/
def Obligations.IndexRegisterLoadsAndAdds : Prop :=
  ∀ addr : Word,
    Effect (.bLdI addr) [0xA0, hiByte addr, loByte addr] [.i] (fun _ t => t.i = addr) ∧
    Effect .bAddIRx [0xFE] [.i] (fun s t => t.i.toNat = (s.i.toNat + s.rx.toNat) % 65536)

/-- R172, R173, R174, R175: byte transfers through I; a store changes the byte at I alone. -/
def Obligations.ByteTransfersThroughI : Prop :=
  let stored (v : State → Byte) (s t : State) : Prop :=
    ∀ b, b < 65536 → t.read8 b = if b = s.i.toNat then v s else s.read8 b
  Effect .bLdMemRx [0xF0] [.mem] (stored fun s => s.rx) ∧
  Effect .bLdMemRy [0xF1] [.mem] (stored fun s => s.ry) ∧
  Effect .bLdRxMem [0xF2] [.rx] (fun s t => t.rx = s.read8 s.i.toNat) ∧
  Effect .bLdRyMem [0xF4] [.ry] (fun s t => t.ry = s.read8 s.i.toNat)

/-- R177: `BCD Rx` stores the hundreds, tens and ones digits of Rx at `I`, `I + 1`, `I + 2`, each modulo 65536, and
changes no other byte. -/
def Obligations.BcdStoresThreeDigits : Prop :=
  Effect .bBcd [0xF3] [.mem] (fun s t => ∀ b, b < 65536 → (t.read8 b).toNat =
    if b = s.i.toNat then s.rx.toNat / 100
    else if b = (s.i.toNat + 1) % 65536 then s.rx.toNat / 10 % 10
    else if b = (s.i.toNat + 2) % 65536 then s.rx.toNat % 10
    else (s.read8 b).toNat)

/-! ### Variant B timers, keys, display -/

/-- R186, R187, R188: the timer instructions. -/
def Obligations.TimerInstructions : Prop :=
  Effect .bLdRxDt [0xF7] [.rx] (fun s t => t.rx = s.dt) ∧
  Effect .bLdDtRx [0xF5] [.dt] (fun s t => t.dt = s.rx) ∧
  Effect .bLdStRx [0xF8] [.st] (fun s t => t.st = s.rx)

/-- R189: with a key pressed, `LD Rx, K` loads its code and changes nothing else. That the answer is the sample's is the
model's (assumption 3). -/
def Obligations.KeyReadLoadsTheKey : Prop :=
  encode .bLdRxK = [0xFA] ∧
  ∀ (s : State) (k : Byte), s.nextKey = some k →
    ∃ t, exec .bLdRxK s = .next t ∧ t.rx = k ∧ Frame [.rx] s t

/-- R195 with R84: `CLS` turns every cell to 0x00; F unchanged. -/
def Obligations.ClearScreenClearsEveryCell : Prop :=
  Effect .bCls [0xE0] [.disp] (fun _ t => ∀ x y, t.cell x y = 0x00)

/-- R196: `DRW n8` draws the sprite of at most n8 bytes at I, truncated at 0xFFFF, at column Rx, row Ry, and sets F to
the draw's answer; the draw itself is `SpriteTogglesItsSetBits` and `SpriteReportsTheLastToggle`. -/
def Obligations.DrawInstructionDrawsTheSprite : Prop :=
  ∀ n : Byte, Effect (.bDrw n) [0xD0, n] [.f, .disp] (fun s t =>
    let drawn := drawSprite s.params s.disp (s.readArray s.i.toNat n.toNat) s.rx.toNat s.ry.toNat
    (∀ x y, t.cell x y = getCell s.params drawn.2 x y) ∧ t.f = if drawn.1 then 0x01 else 0x00)

/-! ### Variant A loads, stores, transfers -/

/-- R203 to R206: immediate loads; no flag. -/
def Obligations.WordImmediateLoads : Prop :=
  ∀ v : Word,
    Effect (.aLdaImm v) [0x03, hiByte v, loByte v] [.a] (fun _ t => t.a = v) ∧
    Effect (.aLdxImm v) [0x04, hiByte v, loByte v] [.x] (fun _ t => t.x = v) ∧
    Effect (.aLdyImm v) [0x05, hiByte v, loByte v] [.y] (fun _ t => t.y = v) ∧
    Effect (.aLdiImm v) [0x06, hiByte v, loByte v] [.i] (fun _ t => t.i = v)

/-- R207, R208, R209: loads of the big-endian word at I, 0x0000 at 0xFFFF; no flag. -/
def Obligations.WordLoadsThroughI : Prop :=
  let word (s : State) : Nat :=
    if s.i = 0xFFFF then 0 else (s.read8 s.i.toNat).toNat * 256 + (s.read8 (s.i.toNat + 1)).toNat
  Effect .aLdaMem [0x07] [.a] (fun s t => t.a.toNat = word s) ∧
  Effect .aLdxMem [0x08] [.x] (fun s t => t.x.toNat = word s) ∧
  Effect .aLdyMem [0x09] [.y] (fun s t => t.y.toNat = word s)

/-- R210, R211, R212: stores of a word at I, high byte first; at 0xFFFF by `WRITE_WORD_TOP`; no other byte changes. -/
def Obligations.WordStoresThroughI : Prop :=
  let stored (v : State → Word) (s t : State) : Prop :=
    (s.i ≠ 0xFFFF → ∀ b, b < 65536 → (t.read8 b).toNat =
      if b = s.i.toNat then (v s).toNat / 256 else if b = s.i.toNat + 1 then (v s).toNat % 256
      else (s.read8 b).toNat) ∧
    (s.i = 0xFFFF → ∀ b, b < 65536 → (t.read8 b).toNat =
      if b = 0xFFFF ∧ s.params.wordTop ≠ .reject then (v s).toNat / 256
      else if b = 0 ∧ s.params.wordTop = .wrap then (v s).toNat % 256 else (s.read8 b).toNat)
  Effect .aStaMem [0x0A] [.mem] (stored fun s => s.a) ∧
  Effect .aStxMem [0x0B] [.mem] (stored fun s => s.x) ∧
  Effect .aStyMem [0x0C] [.mem] (stored fun s => s.y)

/-- R213 to R224: the twelve register transfers; no flag. -/
def Obligations.RegisterTransfers : Prop :=
  Effect .aTax [0x10] [.x] (fun s t => t.x = s.a) ∧ Effect .aTay [0x11] [.y] (fun s t => t.y = s.a) ∧
  Effect .aTai [0x12] [.i] (fun s t => t.i = s.a) ∧ Effect .aTxa [0x13] [.a] (fun s t => t.a = s.x) ∧
  Effect .aTxy [0x14] [.y] (fun s t => t.y = s.x) ∧ Effect .aTxi [0x15] [.i] (fun s t => t.i = s.x) ∧
  Effect .aTya [0x16] [.a] (fun s t => t.a = s.y) ∧ Effect .aTyx [0x17] [.x] (fun s t => t.x = s.y) ∧
  Effect .aTyi [0x18] [.i] (fun s t => t.i = s.y) ∧ Effect .aTia [0x19] [.a] (fun s t => t.a = s.i) ∧
  Effect .aTix [0x1A] [.x] (fun s t => t.x = s.i) ∧ Effect .aTiy [0x1B] [.y] (fun s t => t.y = s.i)

/-! ### Variant A branches -/

/-- R246, R248, R250, R252, R254, R256 with R245: the branches to the value of I. -/
def Obligations.BranchesToI : Prop :=
  let branched (flag : State → Bool) (taken : Bool) (s t : State) : Prop :=
    t.pc = if flag s = taken then s.i else s.pc
  Effect .aBcsI [0x50] [.pc] (branched (·.c) true) ∧ Effect .aBccI [0x52] [.pc] (branched (·.c) false) ∧
  Effect .aBnsI [0x54] [.pc] (branched (·.n) true) ∧ Effect .aBncI [0x56] [.pc] (branched (·.n) false) ∧
  Effect .aBzsI [0x58] [.pc] (branched (·.z) true) ∧ Effect .aBzcI [0x5A] [.pc] (branched (·.z) false)

/-- R247, R249, R251, R253, R255, R257 with R245: the relative branches, by a signed byte from the address after the
branch, modulo 65536. -/
def Obligations.RelativeBranches : Prop :=
  ∀ d : Byte,
    let branched (flag : State → Bool) (taken : Bool) (s t : State) : Prop :=
      (t.pc.toNat : Int) = ((s.pc.toNat : Int) +
        if flag s = taken then (if d.toNat < 128 then (d.toNat : Int) else (d.toNat : Int) - 256) else 0) % 65536
    Effect (.aBcsRel d) [0x51, d] [.pc] (branched (·.c) true) ∧
    Effect (.aBccRel d) [0x53, d] [.pc] (branched (·.c) false) ∧
    Effect (.aBnsRel d) [0x55, d] [.pc] (branched (·.n) true) ∧
    Effect (.aBncRel d) [0x57, d] [.pc] (branched (·.n) false) ∧
    Effect (.aBzsRel d) [0x59, d] [.pc] (branched (·.z) true) ∧
    Effect (.aBzcRel d) [0x5B, d] [.pc] (branched (·.z) false)

/-! ### Variant A logic and arithmetic -/

/-- R272 to R283: the logic instructions in their four operand forms write A, N and Z and leave C. -/
def Obligations.WordLogicSetsNZ : Prop :=
  ∀ v : Word,
    let logic (op : Bool → Bool → Bool) (m : State → Word) (s t : State) : Prop :=
      (∀ k, k < 16 → t.a.getLsbD k = op (s.a.getLsbD k) ((m s).getLsbD k)) ∧
        t.n = decide (t.a.toNat ≥ 32768) ∧ t.z = decide (t.a.toNat = 0)
    let mem (s : State) : Word := s.read16 s.i.toNat
    Effect (.aAndImm v) [0x30, hiByte v, loByte v] [.a, .n, .z] (logic (· && ·) fun _ => v) ∧
    Effect .aAndMem [0x31] [.a, .n, .z] (logic (· && ·) mem) ∧
    Effect .aAndX [0x32] [.a, .n, .z] (logic (· && ·) (·.x)) ∧
    Effect .aAndY [0x33] [.a, .n, .z] (logic (· && ·) (·.y)) ∧
    Effect (.aOrImm v) [0x34, hiByte v, loByte v] [.a, .n, .z] (logic (· || ·) fun _ => v) ∧
    Effect .aOrMem [0x35] [.a, .n, .z] (logic (· || ·) mem) ∧
    Effect .aOrX [0x36] [.a, .n, .z] (logic (· || ·) (·.x)) ∧
    Effect .aOrY [0x37] [.a, .n, .z] (logic (· || ·) (·.y)) ∧
    Effect (.aXorImm v) [0x38, hiByte v, loByte v] [.a, .n, .z] (logic (· != ·) fun _ => v) ∧
    Effect .aXorMem [0x39] [.a, .n, .z] (logic (· != ·) mem) ∧
    Effect .aXorX [0x3A] [.a, .n, .z] (logic (· != ·) (·.x)) ∧
    Effect .aXorY [0x3B] [.a, .n, .z] (logic (· != ·) (·.y))

/-- R284 to R287: additions to A wrap; C is the carry, N bit 15, Z the zero test of the result. -/
def Obligations.WordAdditionsSetCNZ : Prop :=
  ∀ v : Word,
    let added (m : State → Word) (s t : State) : Prop :=
      t.a.toNat = (s.a.toNat + (m s).toNat) % 65536 ∧ t.c = decide (s.a.toNat + (m s).toNat > 65535) ∧
        t.n = decide (t.a.toNat ≥ 32768) ∧ t.z = decide (t.a.toNat = 0)
    Effect (.aAddImm v) [0x40, hiByte v, loByte v] [.a, .c, .n, .z] (added fun _ => v) ∧
    Effect .aAddMem [0x41] [.a, .c, .n, .z] (added fun s => s.read16 s.i.toNat) ∧
    Effect .aAddX [0x42] [.a, .c, .n, .z] (added (·.x)) ∧
    Effect .aAddY [0x43] [.a, .c, .n, .z] (added (·.y))

/-- R288 to R291: subtractions from A wrap; C is the borrow, N bit 15, Z the zero test of the result. -/
def Obligations.WordSubtractionsSetCNZ : Prop :=
  ∀ v : Word,
    let subtracted (m : State → Word) (s t : State) : Prop :=
      (t.a.toNat : Int) = ((s.a.toNat : Int) - (m s).toNat) % 65536 ∧ t.c = decide (s.a.toNat < (m s).toNat) ∧
        t.n = decide (t.a.toNat ≥ 32768) ∧ t.z = decide (t.a.toNat = 0)
    Effect (.aSubImm v) [0x44, hiByte v, loByte v] [.a, .c, .n, .z] (subtracted fun _ => v) ∧
    Effect .aSubMem [0x45] [.a, .c, .n, .z] (subtracted fun s => s.read16 s.i.toNat) ∧
    Effect .aSubX [0x46] [.a, .c, .n, .z] (subtracted (·.x)) ∧
    Effect .aSubY [0x47] [.a, .c, .n, .z] (subtracted (·.y))

/-- R292 to R295: compares set C, N and Z as the subtraction would, and do not write A. -/
def Obligations.WordComparesSetCNZ : Prop :=
  ∀ v : Word,
    let compared (m : State → Word) (s t : State) : Prop :=
      t.c = decide (s.a.toNat < (m s).toNat) ∧ t.z = decide (s.a = m s) ∧
        t.n = decide (((s.a.toNat : Int) - (m s).toNat) % 65536 ≥ 32768)
    Effect (.aCmpImm v) [0x48, hiByte v, loByte v] [.c, .n, .z] (compared fun _ => v) ∧
    Effect .aCmpMem [0x49] [.c, .n, .z] (compared fun s => s.read16 s.i.toNat) ∧
    Effect .aCmpX [0x4A] [.c, .n, .z] (compared (·.x)) ∧
    Effect .aCmpY [0x4B] [.c, .n, .z] (compared (·.y))

/-- R296 to R299: shifts fill with 0, rotates with the old carry; C is the bit moved out; N and Z follow the result. -/
def Obligations.WordShiftsAndRotates : Prop :=
  let shifted (result out : Nat → Nat → Nat) (s t : State) : Prop :=
    t.a.toNat = result s.a.toNat s.c.toNat ∧ t.c.toNat = out s.a.toNat s.c.toNat ∧
      t.n = decide (t.a.toNat ≥ 32768) ∧ t.z = decide (t.a.toNat = 0)
  Effect .aShl [0x4C] [.a, .c, .n, .z] (shifted (fun a _ => a * 2 % 65536) fun a _ => a / 32768) ∧
  Effect .aShr [0x4D] [.a, .c, .n, .z] (shifted (fun a _ => a / 2) fun a _ => a % 2) ∧
  Effect .aRol [0x4E] [.a, .c, .n, .z] (shifted (fun a c => (a * 2 + c) % 65536) fun a _ => a / 32768) ∧
  Effect .aRor [0x4F] [.a, .c, .n, .z] (shifted (fun a c => a / 2 + c * 32768) fun a _ => a % 2)
end

