-- ==== Sys2Proof/Laws/Bits.lean ====
section
/-! SUPPORT. Slices and big-endian words as naturals, the flag tests as naturals, and the table of lengths. -/

namespace Sys2Proof.Machine

theorem hiByte_toNat (v : Word) : (hiByte v).toNat = v.toNat / 256 := by
  have := v.isLt
  simp only [hiByte, BitVec.extractLsb'_toNat, Nat.shiftRight_eq_div_pow]
  omega

theorem loByte_toNat (v : Word) : (loByte v).toNat = v.toNat % 256 := by
  simp [loByte]

theorem wordOf_toNat (hi lo : Byte) : (wordOf hi lo).toNat = hi.toNat * 256 + lo.toNat := by
  have h := Nat.two_pow_add_eq_or_of_lt (i := 8) lo.isLt hi.toNat
  rw [wordOf, BitVec.toNat_append, Nat.shiftLeft_eq, Nat.mul_comm, ← h]

@[simp] theorem wordOf_hiByte_loByte (v : Word) : wordOf (hiByte v) (loByte v) = v := by
  rw [← BitVec.toNat_inj, wordOf_toNat, hiByte_toNat, loByte_toNat]
  omega

@[simp] theorem hiByte_wordOf (hi lo : Byte) : hiByte (wordOf hi lo) = hi := by
  have := lo.isLt
  rw [← BitVec.toNat_inj, hiByte_toNat, wordOf_toNat]
  omega

@[simp] theorem loByte_wordOf (hi lo : Byte) : loByte (wordOf hi lo) = lo := by
  have := lo.isLt
  rw [← BitVec.toNat_inj, loByte_toNat, wordOf_toNat]
  omega

theorem topBit16_eq (v : Word) : topBit16 v = decide (v.toNat ≥ 32768) := by
  rw [topBit16, ← BitVec.msb_eq_getLsbD_last v, BitVec.msb_eq_decide]

theorem isZero16_eq (v : Word) : isZero16 v = decide (v.toNat = 0) := by
  rw [isZero16, Bool.eq_iff_iff]
  simp [← BitVec.toNat_inj]

/-- The length the decoder's table gives is the length R106 lists. -/
theorem lenOf_eq_specLen (v : Variant) (op : Byte) : lenOf v op = specLen v op := by
  revert op
  cases v <;> decide

end Sys2Proof.Machine
end

