-- ==== Sys2Proof/Laws/Cells.lean ====
section
/-! SUPPORT. The laws of storage by key: a read after a write, and that a write keeps the canonical form. The first
needs no canonical form, so it holds in every state. -/

namespace Sys2Proof.Machine

@[simp] theorem readCell_nil (key : Nat) : readCell [] key = 0 := rfl

theorem readCell_cons (k : Nat) (v : Byte) (cells : List Host.Cell) (key : Nat) :
    readCell ((k, v) :: cells) key = if k = key then v else readCell cells key := rfl

theorem readCell_dropCell (cells : List Host.Cell) (key key' : Nat) :
    readCell (dropCell cells key) key' = if key' = key then 0 else readCell cells key' := by
  induction cells with
  | nil => simp [dropCell]
  | cons c cells ih =>
    obtain ⟨k, w⟩ := c
    unfold dropCell at ih ⊢
    by_cases h : k = key
    · subst h
      simp only [List.filter_cons, bne_self_eq_false, Bool.false_eq_true, if_false, ih, readCell_cons]
      split <;> simp_all [eq_comm]
    · rw [List.filter_cons_of_pos (by simpa using h), readCell_cons, readCell_cons, ih]
      split
      · subst_vars; simp [h]
      · rfl

theorem readCell_insertCell (cells : List Host.Cell) (key key' : Nat) (v : Byte)
    (hmem : key ∉ cells.map Prod.fst) :
    readCell (insertCell key v cells) key' = if key' = key then v else readCell cells key' := by
  induction cells with
  | nil => simp [insertCell, readCell_cons, eq_comm]
  | cons c cells ih =>
    obtain ⟨k, w⟩ := c
    simp only [List.map_cons, List.mem_cons, not_or] at hmem
    unfold insertCell
    split
    · rw [readCell_cons]; simp only [eq_comm]
    · rw [readCell_cons, ih hmem.2, readCell_cons]
      by_cases hk : k = key'
      · subst hk
        rw [if_pos rfl, if_neg fun e => hmem.1 e.symm, if_pos rfl]
      · simp [hk]

theorem not_mem_dropCell (cells : List Host.Cell) (key : Nat) : key ∉ (dropCell cells key).map Prod.fst := by
  simp [dropCell]

/-- A byte read after a write: the written byte at its key, and every other key as before. -/
theorem readCell_writeCell (cells : List Host.Cell) (key key' : Nat) (v : Byte) :
    readCell (writeCell cells key v) key' = if key' = key then v else readCell cells key' := by
  unfold writeCell
  split
  · rw [readCell_dropCell]; simp_all
  · rw [readCell_insertCell _ _ _ _ (not_mem_dropCell _ _), readCell_dropCell]
    split <;> rfl

theorem cellsWf_nil (size : Nat) : CellsWf size [] := by simp [CellsWf]

theorem cellsWf_dropCell {size : Nat} {cells : List Host.Cell} (h : CellsWf size cells) (key : Nat) :
    CellsWf size (dropCell cells key) :=
  ⟨h.1.filter _, fun c hc => h.2 c (List.mem_of_mem_filter hc)⟩

theorem mem_insertCell {key : Nat} {v : Byte} {cells : List Host.Cell} {c : Host.Cell}
    (h : c ∈ insertCell key v cells) : c = (key, v) ∨ c ∈ cells := by
  induction cells with
  | nil => simpa [insertCell] using h
  | cons d cells ih =>
    unfold insertCell at h
    split at h
    · simpa using h
    · rcases List.mem_cons.1 h with h | h
      · exact .inr (by simp [h])
      · exact (ih h).imp_right (List.mem_cons_of_mem _)

theorem pairwise_insertCell {key : Nat} {v : Byte} {cells : List Host.Cell}
    (h : cells.Pairwise fun c d => c.1 < d.1) (hmem : key ∉ cells.map Prod.fst) :
    (insertCell key v cells).Pairwise fun c d => c.1 < d.1 := by
  induction cells with
  | nil => simp [insertCell]
  | cons d cells ih =>
    obtain ⟨k, w⟩ := d
    simp only [List.map_cons, List.mem_cons, not_or] at hmem
    rw [List.pairwise_cons] at h
    unfold insertCell
    split
    next hlt =>
      refine List.pairwise_cons.2 ⟨fun c hc => ?_, List.pairwise_cons.2 h⟩
      rcases List.mem_cons.1 hc with rfl | hc
      · exact hlt
      · exact hlt.trans (h.1 c hc)
    next hge =>
      refine List.pairwise_cons.2 ⟨fun c hc => ?_, ih h.2 hmem.2⟩
      rcases mem_insertCell hc with rfl | hc
      · exact lt_of_le_of_ne (not_lt.1 hge) fun e => hmem.1 e.symm
      · exact h.1 c hc

/-- A write inside the space keeps the canonical form. -/
theorem cellsWf_writeCell {size : Nat} {cells : List Host.Cell} (h : CellsWf size cells) {key : Nat} (hk : key < size)
    (v : Byte) : CellsWf size (writeCell cells key v) := by
  unfold writeCell
  split
  · exact cellsWf_dropCell h key
  next hv =>
    have hd := cellsWf_dropCell h key
    refine ⟨pairwise_insertCell hd.1 (not_mem_dropCell _ _), fun c hc => ?_⟩
    rcases mem_insertCell hc with rfl | hc
    · exact ⟨hv, hk⟩
    · exact hd.2 c hc

/-- Equal stores are equal data: two canonical stores that read alike at every key are the same list. -/
theorem cellsWf_ext {size : Nat} {l m : List Host.Cell} (hl : CellsWf size l) (hm : CellsWf size m)
    (h : ∀ key, readCell l key = readCell m key) : l = m := by
  have read_low : ∀ (q : List Host.Cell) (k : Nat), (∀ c ∈ q, k < c.1) → readCell q k = 0 := by
    intro q k hq
    induction q with
    | nil => rfl
    | cons c q ih =>
      obtain ⟨j, w⟩ := c
      rw [readCell_cons, if_neg (Nat.ne_of_gt (hq _ (List.mem_cons_self ..))),
        ih fun c hc => hq c (List.mem_cons_of_mem _ hc)]
  have read_head : ∀ (k : Nat) (v : Byte) (q : List Host.Cell), readCell ((k, v) :: q) k = v := by
    intro k v q; simp [readCell_cons]
  induction l generalizing m with
  | nil =>
    cases m with
    | nil => rfl
    | cons d m =>
      obtain ⟨k, v⟩ := d
      have h0 := h k
      rw [readCell_nil, read_head] at h0
      exact absurd h0.symm (hm.2 _ (List.mem_cons_self ..)).1
  | cons c l ih =>
    obtain ⟨k, v⟩ := c
    have hl1 := List.pairwise_cons.1 hl.1
    have hv := (hl.2 _ (List.mem_cons_self ..)).1
    cases m with
    | nil =>
      have h0 := h k
      rw [readCell_nil, read_head] at h0
      exact absurd h0 hv
    | cons d m =>
      obtain ⟨j, w⟩ := d
      have hm1 := List.pairwise_cons.1 hm.1
      have hw := (hm.2 _ (List.mem_cons_self ..)).1
      have hkj : k = j := by
        rcases lt_trichotomy k j with hlt | he | hlt
        · have h0 := h k
          rw [read_head, read_low ((j, w) :: m) k fun c hc => by
            rcases List.mem_cons.1 hc with rfl | hc
            · exact hlt
            · exact hlt.trans (hm1.1 c hc)] at h0
          exact absurd h0 hv
        · exact he
        · have h0 := h j
          rw [read_head, read_low ((k, v) :: l) j fun c hc => by
            rcases List.mem_cons.1 hc with rfl | hc
            · exact hlt
            · exact hlt.trans (hl1.1 c hc)] at h0
          exact absurd h0.symm hw
      subst hkj
      have hvw : v = w := by simpa [read_head] using h k
      subst hvw
      have htail : l = m := by
        refine ih ⟨hl1.2, fun c hc => hl.2 c (List.mem_cons_of_mem _ hc)⟩
          ⟨hm1.2, fun c hc => hm.2 c (List.mem_cons_of_mem _ hc)⟩ fun key => ?_
        by_cases hk : key = k
        · subst hk; rw [read_low l key hl1.1, read_low m key hm1.1]
        · have hkey := h key
          rwa [readCell_cons, readCell_cons, if_neg (Ne.symm hk), if_neg (Ne.symm hk)] at hkey
      rw [htail]

end Sys2Proof.Machine
end

