-- ==== Sys2Proof/Laws/Display.lean ====
section
/-! SUPPORT. What the display's operations can do: which cells they change, and that they keep the display's canonical
form for its size. -/

namespace Sys2Proof.Machine

/-- The display's canonical form: cells of the grid only (10_state.md R34). -/
abbrev DisplayWf (p : Params) (cells : List Host.Cell) : Prop :=
  CellsWf (p.width * p.height) cells

theorem cellKey_lt {p : Params} {x y : Nat} (hx : x < p.width) (hy : y < p.height) :
    cellKey p x y < p.width * p.height := by
  unfold cellKey
  calc y * p.width + x < y * p.width + p.width := Nat.add_lt_add_left hx _
    _ = (y + 1) * p.width := by ring
    _ ≤ p.height * p.width := Nat.mul_le_mul_right _ hy
    _ = p.width * p.height := Nat.mul_comm ..

/-- Cells of the grid have keys of their own. -/
theorem cellKey_inj {p : Params} {x y x' y' : Nat} (hx : x < p.width) (hx' : x' < p.width) :
    cellKey p x y = cellKey p x' y' ↔ x = x' ∧ y = y' := by
  unfold cellKey
  constructor
  · intro h
    have hd : (y * p.width + x) / p.width = (y' * p.width + x') / p.width := by rw [h]
    have hm : (y * p.width + x) % p.width = (y' * p.width + x') % p.width := by rw [h]
    rw [Nat.mul_comm, Nat.mul_comm y', Nat.mul_add_div (by omega), Nat.mul_add_div (by omega),
      Nat.div_eq_of_lt hx, Nat.div_eq_of_lt hx'] at hd
    rw [Nat.mul_add_mod', Nat.mul_add_mod', Nat.mod_eq_of_lt hx, Nat.mod_eq_of_lt hx'] at hm
    omega
  · rintro ⟨rfl, rfl⟩; rfl

/-- A byte written to the key of a grid cell: that cell changes, and no other. -/
theorem getCell_writeCell {p : Params} {cells : List Host.Cell} {x y : Nat} (hx : x < p.width) (hy : y < p.height)
    (v : Byte) (x' y' : Nat) :
    getCell p (writeCell cells (cellKey p x y) v) x' y' = if x' = x ∧ y' = y then v else getCell p cells x' y' := by
  unfold getCell
  split
  next h' =>
    rw [readCell_writeCell]
    simp only [cellKey_inj h'.1 hx]
  next h' =>
    rw [if_neg]
    rintro ⟨rfl, rfl⟩
    exact h' ⟨hx, hy⟩

theorem getCell_of_inside {p : Params} {cells : List Host.Cell} {x y : Nat} (hx : x < p.width) (hy : y < p.height) :
    getCell p cells x y = readCell cells (cellKey p x y) :=
  if_pos ⟨hx, hy⟩

/-- `setPixel` outside the grid. -/
theorem setPixel_outside {p : Params} {cells : List Host.Cell} {x y : Nat} (h : ¬(x < p.width ∧ y < p.height)) :
    setPixel p cells x y = (false, cells) :=
  if_pos (by omega)

/-- `setPixel` inside the grid. -/
theorem setPixel_inside {p : Params} {cells : List Host.Cell} {x y : Nat} (hx : x < p.width) (hy : y < p.height) :
    setPixel p cells x y =
      (getCell p cells x y != 0,
        writeCell cells (cellKey p x y) (if getCell p cells x y = 0 then p.pixelOn else 0)) := by
  rw [getCell_of_inside hx hy]
  exact if_neg (by omega)

/-- `setPixelColor` outside the grid. -/
theorem setPixelColor_outside {p : Params} {cells : List Host.Cell} {x y : Nat} (color : Byte)
    (h : ¬(x < p.width ∧ y < p.height)) : setPixelColor p cells x y color = (false, cells) :=
  if_pos (by omega)

/-- `setPixelColor` inside the grid. -/
theorem setPixelColor_inside {p : Params} {cells : List Host.Cell} {x y : Nat} (color : Byte) (hx : x < p.width)
    (hy : y < p.height) :
    setPixelColor p cells x y color = (getCell p cells x y != 0, writeCell cells (cellKey p x y) color) := by
  rw [getCell_of_inside hx hy]
  exact if_neg (by omega)

theorem displayWf_setPixel {p : Params} {cells : List Host.Cell} (h : DisplayWf p cells) (x y : Nat) :
    DisplayWf p (setPixel p cells x y).2 := by
  by_cases hin : x < p.width ∧ y < p.height
  · rw [setPixel_inside hin.1 hin.2]; exact cellsWf_writeCell h (cellKey_lt hin.1 hin.2) _
  · rw [setPixel_outside hin]; exact h

theorem displayWf_setPixelColor {p : Params} {cells : List Host.Cell} (h : DisplayWf p cells) (x y : Nat)
    (color : Byte) : DisplayWf p (setPixelColor p cells x y color).2 := by
  by_cases hin : x < p.width ∧ y < p.height
  · rw [setPixelColor_inside color hin.1 hin.2]; exact cellsWf_writeCell h (cellKey_lt hin.1 hin.2) _
  · rw [setPixelColor_outside color hin]; exact h

theorem displayWf_drawColumns {p : Params} {y : Nat} (bits : List Bool) (x : Nat) (acc : Bool × List Host.Cell)
    (h : DisplayWf p acc.2) : DisplayWf p (drawColumns p y bits x acc).2 := by
  induction bits generalizing x acc with
  | nil => exact h
  | cons bit bits ih =>
    unfold drawColumns
    split
    · exact h
    · refine ih _ _ ?_
      split
      · exact displayWf_setPixel h _ _
      · exact h

theorem displayWf_drawRows {p : Params} {x : Nat} (rows : List Byte) (y : Nat) (acc : Bool × List Host.Cell)
    (h : DisplayWf p acc.2) : DisplayWf p (drawRows p x rows y acc).2 := by
  induction rows generalizing y acc with
  | nil => exact h
  | cons row rows ih =>
    unfold drawRows
    split
    · exact h
    · exact ih _ _ (displayWf_drawColumns _ _ _ h)

theorem displayWf_drawSprite {p : Params} {cells : List Host.Cell} (h : DisplayWf p cells) (bytes : List Byte)
    (x y : Nat) : DisplayWf p (drawSprite p cells bytes x y).2 :=
  displayWf_drawRows _ _ _ h

theorem displayWf_clearCells (p : Params) : DisplayWf p clearCells := cellsWf_nil _

/-- Every call of the display port keeps the display's canonical form. -/
theorem displayWf_applyDisplayMove {p : Params} {cells : List Host.Cell} (h : DisplayWf p cells) (move : DisplayMove) :
    DisplayWf p (applyDisplayMove p cells move).2 := by
  cases move with
  | setPixel x y => exact displayWf_setPixel h x y
  | setPixelColor x y color => exact displayWf_setPixelColor h x y color
  | clear => exact displayWf_clearCells p
  | drawSprite bytes x y => exact displayWf_drawSprite h bytes x y

end Sys2Proof.Machine
end

