-- ==== Sys2Proof/Laws/State.lean ====
section
/-! SUPPORT. One lemma per field per update of State, so that no later proof unfolds a record update. -/

namespace Sys2Proof.Machine

section
variable (s : State)

@[simp] theorem State.setRx_params (v : Byte) : (s.setRx v).params = s.params := rfl
@[simp] theorem State.setRx_rx (v : Byte) : (s.setRx v).rx = v := rfl
@[simp] theorem State.setRx_ry (v : Byte) : (s.setRx v).ry = s.ry := rfl
@[simp] theorem State.setRx_f (v : Byte) : (s.setRx v).f = s.f := rfl
@[simp] theorem State.setRx_i (v : Byte) : (s.setRx v).i = s.i := rfl
@[simp] theorem State.setRx_dt (v : Byte) : (s.setRx v).dt = s.dt := rfl
@[simp] theorem State.setRx_st (v : Byte) : (s.setRx v).st = s.st := rfl
@[simp] theorem State.setRx_a (v : Byte) : (s.setRx v).a = s.a := rfl
@[simp] theorem State.setRx_x (v : Byte) : (s.setRx v).x = s.x := rfl
@[simp] theorem State.setRx_y (v : Byte) : (s.setRx v).y = s.y := rfl
@[simp] theorem State.setRx_c (v : Byte) : (s.setRx v).c = s.c := rfl
@[simp] theorem State.setRx_n (v : Byte) : (s.setRx v).n = s.n := rfl
@[simp] theorem State.setRx_z (v : Byte) : (s.setRx v).z = s.z := rfl
@[simp] theorem State.setRx_pc (v : Byte) : (s.setRx v).pc = s.pc := rfl
@[simp] theorem State.setRx_sp (v : Byte) : (s.setRx v).sp = s.sp := rfl
@[simp] theorem State.setRx_stack (v : Byte) : (s.setRx v).stack = s.stack := rfl
@[simp] theorem State.setRx_mem (v : Byte) : (s.setRx v).mem = s.mem := rfl
@[simp] theorem State.setRx_disp (v : Byte) : (s.setRx v).disp = s.disp := rfl
@[simp] theorem State.setRx_running (v : Byte) : (s.setRx v).running = s.running := rfl
@[simp] theorem State.setRx_gov (v : Byte) : (s.setRx v).gov = s.gov := rfl
@[simp] theorem State.setRx_diags (v : Byte) : (s.setRx v).diags = s.diags := rfl
@[simp] theorem State.setRx_executed (v : Byte) : (s.setRx v).executed = s.executed := rfl
@[simp] theorem State.setRx_inputs (v : Byte) : (s.setRx v).inputs = s.inputs := rfl
@[simp] theorem State.setRx_draws (v : Byte) : (s.setRx v).draws = s.draws := rfl
@[simp] theorem State.setRx_hostMoves (v : Byte) : (s.setRx v).hostMoves = s.hostMoves := rfl

@[simp] theorem State.setRy_params (v : Byte) : (s.setRy v).params = s.params := rfl
@[simp] theorem State.setRy_rx (v : Byte) : (s.setRy v).rx = s.rx := rfl
@[simp] theorem State.setRy_ry (v : Byte) : (s.setRy v).ry = v := rfl
@[simp] theorem State.setRy_f (v : Byte) : (s.setRy v).f = s.f := rfl
@[simp] theorem State.setRy_i (v : Byte) : (s.setRy v).i = s.i := rfl
@[simp] theorem State.setRy_dt (v : Byte) : (s.setRy v).dt = s.dt := rfl
@[simp] theorem State.setRy_st (v : Byte) : (s.setRy v).st = s.st := rfl
@[simp] theorem State.setRy_a (v : Byte) : (s.setRy v).a = s.a := rfl
@[simp] theorem State.setRy_x (v : Byte) : (s.setRy v).x = s.x := rfl
@[simp] theorem State.setRy_y (v : Byte) : (s.setRy v).y = s.y := rfl
@[simp] theorem State.setRy_c (v : Byte) : (s.setRy v).c = s.c := rfl
@[simp] theorem State.setRy_n (v : Byte) : (s.setRy v).n = s.n := rfl
@[simp] theorem State.setRy_z (v : Byte) : (s.setRy v).z = s.z := rfl
@[simp] theorem State.setRy_pc (v : Byte) : (s.setRy v).pc = s.pc := rfl
@[simp] theorem State.setRy_sp (v : Byte) : (s.setRy v).sp = s.sp := rfl
@[simp] theorem State.setRy_stack (v : Byte) : (s.setRy v).stack = s.stack := rfl
@[simp] theorem State.setRy_mem (v : Byte) : (s.setRy v).mem = s.mem := rfl
@[simp] theorem State.setRy_disp (v : Byte) : (s.setRy v).disp = s.disp := rfl
@[simp] theorem State.setRy_running (v : Byte) : (s.setRy v).running = s.running := rfl
@[simp] theorem State.setRy_gov (v : Byte) : (s.setRy v).gov = s.gov := rfl
@[simp] theorem State.setRy_diags (v : Byte) : (s.setRy v).diags = s.diags := rfl
@[simp] theorem State.setRy_executed (v : Byte) : (s.setRy v).executed = s.executed := rfl
@[simp] theorem State.setRy_inputs (v : Byte) : (s.setRy v).inputs = s.inputs := rfl
@[simp] theorem State.setRy_draws (v : Byte) : (s.setRy v).draws = s.draws := rfl
@[simp] theorem State.setRy_hostMoves (v : Byte) : (s.setRy v).hostMoves = s.hostMoves := rfl

@[simp] theorem State.setF_params (v : Byte) : (s.setF v).params = s.params := rfl
@[simp] theorem State.setF_rx (v : Byte) : (s.setF v).rx = s.rx := rfl
@[simp] theorem State.setF_ry (v : Byte) : (s.setF v).ry = s.ry := rfl
@[simp] theorem State.setF_f (v : Byte) : (s.setF v).f = v := rfl
@[simp] theorem State.setF_i (v : Byte) : (s.setF v).i = s.i := rfl
@[simp] theorem State.setF_dt (v : Byte) : (s.setF v).dt = s.dt := rfl
@[simp] theorem State.setF_st (v : Byte) : (s.setF v).st = s.st := rfl
@[simp] theorem State.setF_a (v : Byte) : (s.setF v).a = s.a := rfl
@[simp] theorem State.setF_x (v : Byte) : (s.setF v).x = s.x := rfl
@[simp] theorem State.setF_y (v : Byte) : (s.setF v).y = s.y := rfl
@[simp] theorem State.setF_c (v : Byte) : (s.setF v).c = s.c := rfl
@[simp] theorem State.setF_n (v : Byte) : (s.setF v).n = s.n := rfl
@[simp] theorem State.setF_z (v : Byte) : (s.setF v).z = s.z := rfl
@[simp] theorem State.setF_pc (v : Byte) : (s.setF v).pc = s.pc := rfl
@[simp] theorem State.setF_sp (v : Byte) : (s.setF v).sp = s.sp := rfl
@[simp] theorem State.setF_stack (v : Byte) : (s.setF v).stack = s.stack := rfl
@[simp] theorem State.setF_mem (v : Byte) : (s.setF v).mem = s.mem := rfl
@[simp] theorem State.setF_disp (v : Byte) : (s.setF v).disp = s.disp := rfl
@[simp] theorem State.setF_running (v : Byte) : (s.setF v).running = s.running := rfl
@[simp] theorem State.setF_gov (v : Byte) : (s.setF v).gov = s.gov := rfl
@[simp] theorem State.setF_diags (v : Byte) : (s.setF v).diags = s.diags := rfl
@[simp] theorem State.setF_executed (v : Byte) : (s.setF v).executed = s.executed := rfl
@[simp] theorem State.setF_inputs (v : Byte) : (s.setF v).inputs = s.inputs := rfl
@[simp] theorem State.setF_draws (v : Byte) : (s.setF v).draws = s.draws := rfl
@[simp] theorem State.setF_hostMoves (v : Byte) : (s.setF v).hostMoves = s.hostMoves := rfl

@[simp] theorem State.setI_params (v : Word) : (s.setI v).params = s.params := rfl
@[simp] theorem State.setI_rx (v : Word) : (s.setI v).rx = s.rx := rfl
@[simp] theorem State.setI_ry (v : Word) : (s.setI v).ry = s.ry := rfl
@[simp] theorem State.setI_f (v : Word) : (s.setI v).f = s.f := rfl
@[simp] theorem State.setI_i (v : Word) : (s.setI v).i = v := rfl
@[simp] theorem State.setI_dt (v : Word) : (s.setI v).dt = s.dt := rfl
@[simp] theorem State.setI_st (v : Word) : (s.setI v).st = s.st := rfl
@[simp] theorem State.setI_a (v : Word) : (s.setI v).a = s.a := rfl
@[simp] theorem State.setI_x (v : Word) : (s.setI v).x = s.x := rfl
@[simp] theorem State.setI_y (v : Word) : (s.setI v).y = s.y := rfl
@[simp] theorem State.setI_c (v : Word) : (s.setI v).c = s.c := rfl
@[simp] theorem State.setI_n (v : Word) : (s.setI v).n = s.n := rfl
@[simp] theorem State.setI_z (v : Word) : (s.setI v).z = s.z := rfl
@[simp] theorem State.setI_pc (v : Word) : (s.setI v).pc = s.pc := rfl
@[simp] theorem State.setI_sp (v : Word) : (s.setI v).sp = s.sp := rfl
@[simp] theorem State.setI_stack (v : Word) : (s.setI v).stack = s.stack := rfl
@[simp] theorem State.setI_mem (v : Word) : (s.setI v).mem = s.mem := rfl
@[simp] theorem State.setI_disp (v : Word) : (s.setI v).disp = s.disp := rfl
@[simp] theorem State.setI_running (v : Word) : (s.setI v).running = s.running := rfl
@[simp] theorem State.setI_gov (v : Word) : (s.setI v).gov = s.gov := rfl
@[simp] theorem State.setI_diags (v : Word) : (s.setI v).diags = s.diags := rfl
@[simp] theorem State.setI_executed (v : Word) : (s.setI v).executed = s.executed := rfl
@[simp] theorem State.setI_inputs (v : Word) : (s.setI v).inputs = s.inputs := rfl
@[simp] theorem State.setI_draws (v : Word) : (s.setI v).draws = s.draws := rfl
@[simp] theorem State.setI_hostMoves (v : Word) : (s.setI v).hostMoves = s.hostMoves := rfl

@[simp] theorem State.setDt_params (v : Byte) : (s.setDt v).params = s.params := rfl
@[simp] theorem State.setDt_rx (v : Byte) : (s.setDt v).rx = s.rx := rfl
@[simp] theorem State.setDt_ry (v : Byte) : (s.setDt v).ry = s.ry := rfl
@[simp] theorem State.setDt_f (v : Byte) : (s.setDt v).f = s.f := rfl
@[simp] theorem State.setDt_i (v : Byte) : (s.setDt v).i = s.i := rfl
@[simp] theorem State.setDt_dt (v : Byte) : (s.setDt v).dt = v := rfl
@[simp] theorem State.setDt_st (v : Byte) : (s.setDt v).st = s.st := rfl
@[simp] theorem State.setDt_a (v : Byte) : (s.setDt v).a = s.a := rfl
@[simp] theorem State.setDt_x (v : Byte) : (s.setDt v).x = s.x := rfl
@[simp] theorem State.setDt_y (v : Byte) : (s.setDt v).y = s.y := rfl
@[simp] theorem State.setDt_c (v : Byte) : (s.setDt v).c = s.c := rfl
@[simp] theorem State.setDt_n (v : Byte) : (s.setDt v).n = s.n := rfl
@[simp] theorem State.setDt_z (v : Byte) : (s.setDt v).z = s.z := rfl
@[simp] theorem State.setDt_pc (v : Byte) : (s.setDt v).pc = s.pc := rfl
@[simp] theorem State.setDt_sp (v : Byte) : (s.setDt v).sp = s.sp := rfl
@[simp] theorem State.setDt_stack (v : Byte) : (s.setDt v).stack = s.stack := rfl
@[simp] theorem State.setDt_mem (v : Byte) : (s.setDt v).mem = s.mem := rfl
@[simp] theorem State.setDt_disp (v : Byte) : (s.setDt v).disp = s.disp := rfl
@[simp] theorem State.setDt_running (v : Byte) : (s.setDt v).running = s.running := rfl
@[simp] theorem State.setDt_gov (v : Byte) : (s.setDt v).gov = s.gov := rfl
@[simp] theorem State.setDt_diags (v : Byte) : (s.setDt v).diags = s.diags := rfl
@[simp] theorem State.setDt_executed (v : Byte) : (s.setDt v).executed = s.executed := rfl
@[simp] theorem State.setDt_inputs (v : Byte) : (s.setDt v).inputs = s.inputs := rfl
@[simp] theorem State.setDt_draws (v : Byte) : (s.setDt v).draws = s.draws := rfl
@[simp] theorem State.setDt_hostMoves (v : Byte) : (s.setDt v).hostMoves = s.hostMoves := rfl

@[simp] theorem State.setSt_params (v : Byte) : (s.setSt v).params = s.params := rfl
@[simp] theorem State.setSt_rx (v : Byte) : (s.setSt v).rx = s.rx := rfl
@[simp] theorem State.setSt_ry (v : Byte) : (s.setSt v).ry = s.ry := rfl
@[simp] theorem State.setSt_f (v : Byte) : (s.setSt v).f = s.f := rfl
@[simp] theorem State.setSt_i (v : Byte) : (s.setSt v).i = s.i := rfl
@[simp] theorem State.setSt_dt (v : Byte) : (s.setSt v).dt = s.dt := rfl
@[simp] theorem State.setSt_st (v : Byte) : (s.setSt v).st = v := rfl
@[simp] theorem State.setSt_a (v : Byte) : (s.setSt v).a = s.a := rfl
@[simp] theorem State.setSt_x (v : Byte) : (s.setSt v).x = s.x := rfl
@[simp] theorem State.setSt_y (v : Byte) : (s.setSt v).y = s.y := rfl
@[simp] theorem State.setSt_c (v : Byte) : (s.setSt v).c = s.c := rfl
@[simp] theorem State.setSt_n (v : Byte) : (s.setSt v).n = s.n := rfl
@[simp] theorem State.setSt_z (v : Byte) : (s.setSt v).z = s.z := rfl
@[simp] theorem State.setSt_pc (v : Byte) : (s.setSt v).pc = s.pc := rfl
@[simp] theorem State.setSt_sp (v : Byte) : (s.setSt v).sp = s.sp := rfl
@[simp] theorem State.setSt_stack (v : Byte) : (s.setSt v).stack = s.stack := rfl
@[simp] theorem State.setSt_mem (v : Byte) : (s.setSt v).mem = s.mem := rfl
@[simp] theorem State.setSt_disp (v : Byte) : (s.setSt v).disp = s.disp := rfl
@[simp] theorem State.setSt_running (v : Byte) : (s.setSt v).running = s.running := rfl
@[simp] theorem State.setSt_gov (v : Byte) : (s.setSt v).gov = s.gov := rfl
@[simp] theorem State.setSt_diags (v : Byte) : (s.setSt v).diags = s.diags := rfl
@[simp] theorem State.setSt_executed (v : Byte) : (s.setSt v).executed = s.executed := rfl
@[simp] theorem State.setSt_inputs (v : Byte) : (s.setSt v).inputs = s.inputs := rfl
@[simp] theorem State.setSt_draws (v : Byte) : (s.setSt v).draws = s.draws := rfl
@[simp] theorem State.setSt_hostMoves (v : Byte) : (s.setSt v).hostMoves = s.hostMoves := rfl

@[simp] theorem State.setA_params (v : Word) : (s.setA v).params = s.params := rfl
@[simp] theorem State.setA_rx (v : Word) : (s.setA v).rx = s.rx := rfl
@[simp] theorem State.setA_ry (v : Word) : (s.setA v).ry = s.ry := rfl
@[simp] theorem State.setA_f (v : Word) : (s.setA v).f = s.f := rfl
@[simp] theorem State.setA_i (v : Word) : (s.setA v).i = s.i := rfl
@[simp] theorem State.setA_dt (v : Word) : (s.setA v).dt = s.dt := rfl
@[simp] theorem State.setA_st (v : Word) : (s.setA v).st = s.st := rfl
@[simp] theorem State.setA_a (v : Word) : (s.setA v).a = v := rfl
@[simp] theorem State.setA_x (v : Word) : (s.setA v).x = s.x := rfl
@[simp] theorem State.setA_y (v : Word) : (s.setA v).y = s.y := rfl
@[simp] theorem State.setA_c (v : Word) : (s.setA v).c = s.c := rfl
@[simp] theorem State.setA_n (v : Word) : (s.setA v).n = s.n := rfl
@[simp] theorem State.setA_z (v : Word) : (s.setA v).z = s.z := rfl
@[simp] theorem State.setA_pc (v : Word) : (s.setA v).pc = s.pc := rfl
@[simp] theorem State.setA_sp (v : Word) : (s.setA v).sp = s.sp := rfl
@[simp] theorem State.setA_stack (v : Word) : (s.setA v).stack = s.stack := rfl
@[simp] theorem State.setA_mem (v : Word) : (s.setA v).mem = s.mem := rfl
@[simp] theorem State.setA_disp (v : Word) : (s.setA v).disp = s.disp := rfl
@[simp] theorem State.setA_running (v : Word) : (s.setA v).running = s.running := rfl
@[simp] theorem State.setA_gov (v : Word) : (s.setA v).gov = s.gov := rfl
@[simp] theorem State.setA_diags (v : Word) : (s.setA v).diags = s.diags := rfl
@[simp] theorem State.setA_executed (v : Word) : (s.setA v).executed = s.executed := rfl
@[simp] theorem State.setA_inputs (v : Word) : (s.setA v).inputs = s.inputs := rfl
@[simp] theorem State.setA_draws (v : Word) : (s.setA v).draws = s.draws := rfl
@[simp] theorem State.setA_hostMoves (v : Word) : (s.setA v).hostMoves = s.hostMoves := rfl

@[simp] theorem State.setX_params (v : Word) : (s.setX v).params = s.params := rfl
@[simp] theorem State.setX_rx (v : Word) : (s.setX v).rx = s.rx := rfl
@[simp] theorem State.setX_ry (v : Word) : (s.setX v).ry = s.ry := rfl
@[simp] theorem State.setX_f (v : Word) : (s.setX v).f = s.f := rfl
@[simp] theorem State.setX_i (v : Word) : (s.setX v).i = s.i := rfl
@[simp] theorem State.setX_dt (v : Word) : (s.setX v).dt = s.dt := rfl
@[simp] theorem State.setX_st (v : Word) : (s.setX v).st = s.st := rfl
@[simp] theorem State.setX_a (v : Word) : (s.setX v).a = s.a := rfl
@[simp] theorem State.setX_x (v : Word) : (s.setX v).x = v := rfl
@[simp] theorem State.setX_y (v : Word) : (s.setX v).y = s.y := rfl
@[simp] theorem State.setX_c (v : Word) : (s.setX v).c = s.c := rfl
@[simp] theorem State.setX_n (v : Word) : (s.setX v).n = s.n := rfl
@[simp] theorem State.setX_z (v : Word) : (s.setX v).z = s.z := rfl
@[simp] theorem State.setX_pc (v : Word) : (s.setX v).pc = s.pc := rfl
@[simp] theorem State.setX_sp (v : Word) : (s.setX v).sp = s.sp := rfl
@[simp] theorem State.setX_stack (v : Word) : (s.setX v).stack = s.stack := rfl
@[simp] theorem State.setX_mem (v : Word) : (s.setX v).mem = s.mem := rfl
@[simp] theorem State.setX_disp (v : Word) : (s.setX v).disp = s.disp := rfl
@[simp] theorem State.setX_running (v : Word) : (s.setX v).running = s.running := rfl
@[simp] theorem State.setX_gov (v : Word) : (s.setX v).gov = s.gov := rfl
@[simp] theorem State.setX_diags (v : Word) : (s.setX v).diags = s.diags := rfl
@[simp] theorem State.setX_executed (v : Word) : (s.setX v).executed = s.executed := rfl
@[simp] theorem State.setX_inputs (v : Word) : (s.setX v).inputs = s.inputs := rfl
@[simp] theorem State.setX_draws (v : Word) : (s.setX v).draws = s.draws := rfl
@[simp] theorem State.setX_hostMoves (v : Word) : (s.setX v).hostMoves = s.hostMoves := rfl

@[simp] theorem State.setY_params (v : Word) : (s.setY v).params = s.params := rfl
@[simp] theorem State.setY_rx (v : Word) : (s.setY v).rx = s.rx := rfl
@[simp] theorem State.setY_ry (v : Word) : (s.setY v).ry = s.ry := rfl
@[simp] theorem State.setY_f (v : Word) : (s.setY v).f = s.f := rfl
@[simp] theorem State.setY_i (v : Word) : (s.setY v).i = s.i := rfl
@[simp] theorem State.setY_dt (v : Word) : (s.setY v).dt = s.dt := rfl
@[simp] theorem State.setY_st (v : Word) : (s.setY v).st = s.st := rfl
@[simp] theorem State.setY_a (v : Word) : (s.setY v).a = s.a := rfl
@[simp] theorem State.setY_x (v : Word) : (s.setY v).x = s.x := rfl
@[simp] theorem State.setY_y (v : Word) : (s.setY v).y = v := rfl
@[simp] theorem State.setY_c (v : Word) : (s.setY v).c = s.c := rfl
@[simp] theorem State.setY_n (v : Word) : (s.setY v).n = s.n := rfl
@[simp] theorem State.setY_z (v : Word) : (s.setY v).z = s.z := rfl
@[simp] theorem State.setY_pc (v : Word) : (s.setY v).pc = s.pc := rfl
@[simp] theorem State.setY_sp (v : Word) : (s.setY v).sp = s.sp := rfl
@[simp] theorem State.setY_stack (v : Word) : (s.setY v).stack = s.stack := rfl
@[simp] theorem State.setY_mem (v : Word) : (s.setY v).mem = s.mem := rfl
@[simp] theorem State.setY_disp (v : Word) : (s.setY v).disp = s.disp := rfl
@[simp] theorem State.setY_running (v : Word) : (s.setY v).running = s.running := rfl
@[simp] theorem State.setY_gov (v : Word) : (s.setY v).gov = s.gov := rfl
@[simp] theorem State.setY_diags (v : Word) : (s.setY v).diags = s.diags := rfl
@[simp] theorem State.setY_executed (v : Word) : (s.setY v).executed = s.executed := rfl
@[simp] theorem State.setY_inputs (v : Word) : (s.setY v).inputs = s.inputs := rfl
@[simp] theorem State.setY_draws (v : Word) : (s.setY v).draws = s.draws := rfl
@[simp] theorem State.setY_hostMoves (v : Word) : (s.setY v).hostMoves = s.hostMoves := rfl

@[simp] theorem State.setC_params (v : Bool) : (s.setC v).params = s.params := rfl
@[simp] theorem State.setC_rx (v : Bool) : (s.setC v).rx = s.rx := rfl
@[simp] theorem State.setC_ry (v : Bool) : (s.setC v).ry = s.ry := rfl
@[simp] theorem State.setC_f (v : Bool) : (s.setC v).f = s.f := rfl
@[simp] theorem State.setC_i (v : Bool) : (s.setC v).i = s.i := rfl
@[simp] theorem State.setC_dt (v : Bool) : (s.setC v).dt = s.dt := rfl
@[simp] theorem State.setC_st (v : Bool) : (s.setC v).st = s.st := rfl
@[simp] theorem State.setC_a (v : Bool) : (s.setC v).a = s.a := rfl
@[simp] theorem State.setC_x (v : Bool) : (s.setC v).x = s.x := rfl
@[simp] theorem State.setC_y (v : Bool) : (s.setC v).y = s.y := rfl
@[simp] theorem State.setC_c (v : Bool) : (s.setC v).c = v := rfl
@[simp] theorem State.setC_n (v : Bool) : (s.setC v).n = s.n := rfl
@[simp] theorem State.setC_z (v : Bool) : (s.setC v).z = s.z := rfl
@[simp] theorem State.setC_pc (v : Bool) : (s.setC v).pc = s.pc := rfl
@[simp] theorem State.setC_sp (v : Bool) : (s.setC v).sp = s.sp := rfl
@[simp] theorem State.setC_stack (v : Bool) : (s.setC v).stack = s.stack := rfl
@[simp] theorem State.setC_mem (v : Bool) : (s.setC v).mem = s.mem := rfl
@[simp] theorem State.setC_disp (v : Bool) : (s.setC v).disp = s.disp := rfl
@[simp] theorem State.setC_running (v : Bool) : (s.setC v).running = s.running := rfl
@[simp] theorem State.setC_gov (v : Bool) : (s.setC v).gov = s.gov := rfl
@[simp] theorem State.setC_diags (v : Bool) : (s.setC v).diags = s.diags := rfl
@[simp] theorem State.setC_executed (v : Bool) : (s.setC v).executed = s.executed := rfl
@[simp] theorem State.setC_inputs (v : Bool) : (s.setC v).inputs = s.inputs := rfl
@[simp] theorem State.setC_draws (v : Bool) : (s.setC v).draws = s.draws := rfl
@[simp] theorem State.setC_hostMoves (v : Bool) : (s.setC v).hostMoves = s.hostMoves := rfl

@[simp] theorem State.setN_params (v : Bool) : (s.setN v).params = s.params := rfl
@[simp] theorem State.setN_rx (v : Bool) : (s.setN v).rx = s.rx := rfl
@[simp] theorem State.setN_ry (v : Bool) : (s.setN v).ry = s.ry := rfl
@[simp] theorem State.setN_f (v : Bool) : (s.setN v).f = s.f := rfl
@[simp] theorem State.setN_i (v : Bool) : (s.setN v).i = s.i := rfl
@[simp] theorem State.setN_dt (v : Bool) : (s.setN v).dt = s.dt := rfl
@[simp] theorem State.setN_st (v : Bool) : (s.setN v).st = s.st := rfl
@[simp] theorem State.setN_a (v : Bool) : (s.setN v).a = s.a := rfl
@[simp] theorem State.setN_x (v : Bool) : (s.setN v).x = s.x := rfl
@[simp] theorem State.setN_y (v : Bool) : (s.setN v).y = s.y := rfl
@[simp] theorem State.setN_c (v : Bool) : (s.setN v).c = s.c := rfl
@[simp] theorem State.setN_n (v : Bool) : (s.setN v).n = v := rfl
@[simp] theorem State.setN_z (v : Bool) : (s.setN v).z = s.z := rfl
@[simp] theorem State.setN_pc (v : Bool) : (s.setN v).pc = s.pc := rfl
@[simp] theorem State.setN_sp (v : Bool) : (s.setN v).sp = s.sp := rfl
@[simp] theorem State.setN_stack (v : Bool) : (s.setN v).stack = s.stack := rfl
@[simp] theorem State.setN_mem (v : Bool) : (s.setN v).mem = s.mem := rfl
@[simp] theorem State.setN_disp (v : Bool) : (s.setN v).disp = s.disp := rfl
@[simp] theorem State.setN_running (v : Bool) : (s.setN v).running = s.running := rfl
@[simp] theorem State.setN_gov (v : Bool) : (s.setN v).gov = s.gov := rfl
@[simp] theorem State.setN_diags (v : Bool) : (s.setN v).diags = s.diags := rfl
@[simp] theorem State.setN_executed (v : Bool) : (s.setN v).executed = s.executed := rfl
@[simp] theorem State.setN_inputs (v : Bool) : (s.setN v).inputs = s.inputs := rfl
@[simp] theorem State.setN_draws (v : Bool) : (s.setN v).draws = s.draws := rfl
@[simp] theorem State.setN_hostMoves (v : Bool) : (s.setN v).hostMoves = s.hostMoves := rfl

@[simp] theorem State.setZ_params (v : Bool) : (s.setZ v).params = s.params := rfl
@[simp] theorem State.setZ_rx (v : Bool) : (s.setZ v).rx = s.rx := rfl
@[simp] theorem State.setZ_ry (v : Bool) : (s.setZ v).ry = s.ry := rfl
@[simp] theorem State.setZ_f (v : Bool) : (s.setZ v).f = s.f := rfl
@[simp] theorem State.setZ_i (v : Bool) : (s.setZ v).i = s.i := rfl
@[simp] theorem State.setZ_dt (v : Bool) : (s.setZ v).dt = s.dt := rfl
@[simp] theorem State.setZ_st (v : Bool) : (s.setZ v).st = s.st := rfl
@[simp] theorem State.setZ_a (v : Bool) : (s.setZ v).a = s.a := rfl
@[simp] theorem State.setZ_x (v : Bool) : (s.setZ v).x = s.x := rfl
@[simp] theorem State.setZ_y (v : Bool) : (s.setZ v).y = s.y := rfl
@[simp] theorem State.setZ_c (v : Bool) : (s.setZ v).c = s.c := rfl
@[simp] theorem State.setZ_n (v : Bool) : (s.setZ v).n = s.n := rfl
@[simp] theorem State.setZ_z (v : Bool) : (s.setZ v).z = v := rfl
@[simp] theorem State.setZ_pc (v : Bool) : (s.setZ v).pc = s.pc := rfl
@[simp] theorem State.setZ_sp (v : Bool) : (s.setZ v).sp = s.sp := rfl
@[simp] theorem State.setZ_stack (v : Bool) : (s.setZ v).stack = s.stack := rfl
@[simp] theorem State.setZ_mem (v : Bool) : (s.setZ v).mem = s.mem := rfl
@[simp] theorem State.setZ_disp (v : Bool) : (s.setZ v).disp = s.disp := rfl
@[simp] theorem State.setZ_running (v : Bool) : (s.setZ v).running = s.running := rfl
@[simp] theorem State.setZ_gov (v : Bool) : (s.setZ v).gov = s.gov := rfl
@[simp] theorem State.setZ_diags (v : Bool) : (s.setZ v).diags = s.diags := rfl
@[simp] theorem State.setZ_executed (v : Bool) : (s.setZ v).executed = s.executed := rfl
@[simp] theorem State.setZ_inputs (v : Bool) : (s.setZ v).inputs = s.inputs := rfl
@[simp] theorem State.setZ_draws (v : Bool) : (s.setZ v).draws = s.draws := rfl
@[simp] theorem State.setZ_hostMoves (v : Bool) : (s.setZ v).hostMoves = s.hostMoves := rfl

@[simp] theorem State.setPc_params (v : Word) : (s.setPc v).params = s.params := rfl
@[simp] theorem State.setPc_rx (v : Word) : (s.setPc v).rx = s.rx := rfl
@[simp] theorem State.setPc_ry (v : Word) : (s.setPc v).ry = s.ry := rfl
@[simp] theorem State.setPc_f (v : Word) : (s.setPc v).f = s.f := rfl
@[simp] theorem State.setPc_i (v : Word) : (s.setPc v).i = s.i := rfl
@[simp] theorem State.setPc_dt (v : Word) : (s.setPc v).dt = s.dt := rfl
@[simp] theorem State.setPc_st (v : Word) : (s.setPc v).st = s.st := rfl
@[simp] theorem State.setPc_a (v : Word) : (s.setPc v).a = s.a := rfl
@[simp] theorem State.setPc_x (v : Word) : (s.setPc v).x = s.x := rfl
@[simp] theorem State.setPc_y (v : Word) : (s.setPc v).y = s.y := rfl
@[simp] theorem State.setPc_c (v : Word) : (s.setPc v).c = s.c := rfl
@[simp] theorem State.setPc_n (v : Word) : (s.setPc v).n = s.n := rfl
@[simp] theorem State.setPc_z (v : Word) : (s.setPc v).z = s.z := rfl
@[simp] theorem State.setPc_pc (v : Word) : (s.setPc v).pc = v := rfl
@[simp] theorem State.setPc_sp (v : Word) : (s.setPc v).sp = s.sp := rfl
@[simp] theorem State.setPc_stack (v : Word) : (s.setPc v).stack = s.stack := rfl
@[simp] theorem State.setPc_mem (v : Word) : (s.setPc v).mem = s.mem := rfl
@[simp] theorem State.setPc_disp (v : Word) : (s.setPc v).disp = s.disp := rfl
@[simp] theorem State.setPc_running (v : Word) : (s.setPc v).running = s.running := rfl
@[simp] theorem State.setPc_gov (v : Word) : (s.setPc v).gov = s.gov := rfl
@[simp] theorem State.setPc_diags (v : Word) : (s.setPc v).diags = s.diags := rfl
@[simp] theorem State.setPc_executed (v : Word) : (s.setPc v).executed = s.executed := rfl
@[simp] theorem State.setPc_inputs (v : Word) : (s.setPc v).inputs = s.inputs := rfl
@[simp] theorem State.setPc_draws (v : Word) : (s.setPc v).draws = s.draws := rfl
@[simp] theorem State.setPc_hostMoves (v : Word) : (s.setPc v).hostMoves = s.hostMoves := rfl

@[simp] theorem State.setStack_params (p : BitVec 8) (k : Vector Word 256) : (s.setStack p k).params = s.params := rfl
@[simp] theorem State.setStack_rx (p : BitVec 8) (k : Vector Word 256) : (s.setStack p k).rx = s.rx := rfl
@[simp] theorem State.setStack_ry (p : BitVec 8) (k : Vector Word 256) : (s.setStack p k).ry = s.ry := rfl
@[simp] theorem State.setStack_f (p : BitVec 8) (k : Vector Word 256) : (s.setStack p k).f = s.f := rfl
@[simp] theorem State.setStack_i (p : BitVec 8) (k : Vector Word 256) : (s.setStack p k).i = s.i := rfl
@[simp] theorem State.setStack_dt (p : BitVec 8) (k : Vector Word 256) : (s.setStack p k).dt = s.dt := rfl
@[simp] theorem State.setStack_st (p : BitVec 8) (k : Vector Word 256) : (s.setStack p k).st = s.st := rfl
@[simp] theorem State.setStack_a (p : BitVec 8) (k : Vector Word 256) : (s.setStack p k).a = s.a := rfl
@[simp] theorem State.setStack_x (p : BitVec 8) (k : Vector Word 256) : (s.setStack p k).x = s.x := rfl
@[simp] theorem State.setStack_y (p : BitVec 8) (k : Vector Word 256) : (s.setStack p k).y = s.y := rfl
@[simp] theorem State.setStack_c (p : BitVec 8) (k : Vector Word 256) : (s.setStack p k).c = s.c := rfl
@[simp] theorem State.setStack_n (p : BitVec 8) (k : Vector Word 256) : (s.setStack p k).n = s.n := rfl
@[simp] theorem State.setStack_z (p : BitVec 8) (k : Vector Word 256) : (s.setStack p k).z = s.z := rfl
@[simp] theorem State.setStack_pc (p : BitVec 8) (k : Vector Word 256) : (s.setStack p k).pc = s.pc := rfl
@[simp] theorem State.setStack_sp (p : BitVec 8) (k : Vector Word 256) : (s.setStack p k).sp = p := rfl
@[simp] theorem State.setStack_stack (p : BitVec 8) (k : Vector Word 256) : (s.setStack p k).stack = k := rfl
@[simp] theorem State.setStack_mem (p : BitVec 8) (k : Vector Word 256) : (s.setStack p k).mem = s.mem := rfl
@[simp] theorem State.setStack_disp (p : BitVec 8) (k : Vector Word 256) : (s.setStack p k).disp = s.disp := rfl
@[simp] theorem State.setStack_running (p : BitVec 8) (k : Vector Word 256) : (s.setStack p k).running = s.running := rfl
@[simp] theorem State.setStack_gov (p : BitVec 8) (k : Vector Word 256) : (s.setStack p k).gov = s.gov := rfl
@[simp] theorem State.setStack_diags (p : BitVec 8) (k : Vector Word 256) : (s.setStack p k).diags = s.diags := rfl
@[simp] theorem State.setStack_executed (p : BitVec 8) (k : Vector Word 256) : (s.setStack p k).executed = s.executed := rfl
@[simp] theorem State.setStack_inputs (p : BitVec 8) (k : Vector Word 256) : (s.setStack p k).inputs = s.inputs := rfl
@[simp] theorem State.setStack_draws (p : BitVec 8) (k : Vector Word 256) : (s.setStack p k).draws = s.draws := rfl
@[simp] theorem State.setStack_hostMoves (p : BitVec 8) (k : Vector Word 256) : (s.setStack p k).hostMoves = s.hostMoves := rfl

@[simp] theorem State.setMem_params (m : List Host.Cell) : (s.setMem m).params = s.params := rfl
@[simp] theorem State.setMem_rx (m : List Host.Cell) : (s.setMem m).rx = s.rx := rfl
@[simp] theorem State.setMem_ry (m : List Host.Cell) : (s.setMem m).ry = s.ry := rfl
@[simp] theorem State.setMem_f (m : List Host.Cell) : (s.setMem m).f = s.f := rfl
@[simp] theorem State.setMem_i (m : List Host.Cell) : (s.setMem m).i = s.i := rfl
@[simp] theorem State.setMem_dt (m : List Host.Cell) : (s.setMem m).dt = s.dt := rfl
@[simp] theorem State.setMem_st (m : List Host.Cell) : (s.setMem m).st = s.st := rfl
@[simp] theorem State.setMem_a (m : List Host.Cell) : (s.setMem m).a = s.a := rfl
@[simp] theorem State.setMem_x (m : List Host.Cell) : (s.setMem m).x = s.x := rfl
@[simp] theorem State.setMem_y (m : List Host.Cell) : (s.setMem m).y = s.y := rfl
@[simp] theorem State.setMem_c (m : List Host.Cell) : (s.setMem m).c = s.c := rfl
@[simp] theorem State.setMem_n (m : List Host.Cell) : (s.setMem m).n = s.n := rfl
@[simp] theorem State.setMem_z (m : List Host.Cell) : (s.setMem m).z = s.z := rfl
@[simp] theorem State.setMem_pc (m : List Host.Cell) : (s.setMem m).pc = s.pc := rfl
@[simp] theorem State.setMem_sp (m : List Host.Cell) : (s.setMem m).sp = s.sp := rfl
@[simp] theorem State.setMem_stack (m : List Host.Cell) : (s.setMem m).stack = s.stack := rfl
@[simp] theorem State.setMem_mem (m : List Host.Cell) : (s.setMem m).mem = m := rfl
@[simp] theorem State.setMem_disp (m : List Host.Cell) : (s.setMem m).disp = s.disp := rfl
@[simp] theorem State.setMem_running (m : List Host.Cell) : (s.setMem m).running = s.running := rfl
@[simp] theorem State.setMem_gov (m : List Host.Cell) : (s.setMem m).gov = s.gov := rfl
@[simp] theorem State.setMem_diags (m : List Host.Cell) : (s.setMem m).diags = s.diags := rfl
@[simp] theorem State.setMem_executed (m : List Host.Cell) : (s.setMem m).executed = s.executed := rfl
@[simp] theorem State.setMem_inputs (m : List Host.Cell) : (s.setMem m).inputs = s.inputs := rfl
@[simp] theorem State.setMem_draws (m : List Host.Cell) : (s.setMem m).draws = s.draws := rfl
@[simp] theorem State.setMem_hostMoves (m : List Host.Cell) : (s.setMem m).hostMoves = s.hostMoves := rfl

@[simp] theorem State.setDisp_params (d : List Host.Cell) : (s.setDisp d).params = s.params := rfl
@[simp] theorem State.setDisp_rx (d : List Host.Cell) : (s.setDisp d).rx = s.rx := rfl
@[simp] theorem State.setDisp_ry (d : List Host.Cell) : (s.setDisp d).ry = s.ry := rfl
@[simp] theorem State.setDisp_f (d : List Host.Cell) : (s.setDisp d).f = s.f := rfl
@[simp] theorem State.setDisp_i (d : List Host.Cell) : (s.setDisp d).i = s.i := rfl
@[simp] theorem State.setDisp_dt (d : List Host.Cell) : (s.setDisp d).dt = s.dt := rfl
@[simp] theorem State.setDisp_st (d : List Host.Cell) : (s.setDisp d).st = s.st := rfl
@[simp] theorem State.setDisp_a (d : List Host.Cell) : (s.setDisp d).a = s.a := rfl
@[simp] theorem State.setDisp_x (d : List Host.Cell) : (s.setDisp d).x = s.x := rfl
@[simp] theorem State.setDisp_y (d : List Host.Cell) : (s.setDisp d).y = s.y := rfl
@[simp] theorem State.setDisp_c (d : List Host.Cell) : (s.setDisp d).c = s.c := rfl
@[simp] theorem State.setDisp_n (d : List Host.Cell) : (s.setDisp d).n = s.n := rfl
@[simp] theorem State.setDisp_z (d : List Host.Cell) : (s.setDisp d).z = s.z := rfl
@[simp] theorem State.setDisp_pc (d : List Host.Cell) : (s.setDisp d).pc = s.pc := rfl
@[simp] theorem State.setDisp_sp (d : List Host.Cell) : (s.setDisp d).sp = s.sp := rfl
@[simp] theorem State.setDisp_stack (d : List Host.Cell) : (s.setDisp d).stack = s.stack := rfl
@[simp] theorem State.setDisp_mem (d : List Host.Cell) : (s.setDisp d).mem = s.mem := rfl
@[simp] theorem State.setDisp_disp (d : List Host.Cell) : (s.setDisp d).disp = d := rfl
@[simp] theorem State.setDisp_running (d : List Host.Cell) : (s.setDisp d).running = s.running := rfl
@[simp] theorem State.setDisp_gov (d : List Host.Cell) : (s.setDisp d).gov = s.gov := rfl
@[simp] theorem State.setDisp_diags (d : List Host.Cell) : (s.setDisp d).diags = s.diags := rfl
@[simp] theorem State.setDisp_executed (d : List Host.Cell) : (s.setDisp d).executed = s.executed := rfl
@[simp] theorem State.setDisp_inputs (d : List Host.Cell) : (s.setDisp d).inputs = s.inputs := rfl
@[simp] theorem State.setDisp_draws (d : List Host.Cell) : (s.setDisp d).draws = s.draws := rfl
@[simp] theorem State.setDisp_hostMoves (d : List Host.Cell) : (s.setDisp d).hostMoves = s.hostMoves := rfl

@[simp] theorem State.setRunning_params (v : Bool) : (s.setRunning v).params = s.params := rfl
@[simp] theorem State.setRunning_rx (v : Bool) : (s.setRunning v).rx = s.rx := rfl
@[simp] theorem State.setRunning_ry (v : Bool) : (s.setRunning v).ry = s.ry := rfl
@[simp] theorem State.setRunning_f (v : Bool) : (s.setRunning v).f = s.f := rfl
@[simp] theorem State.setRunning_i (v : Bool) : (s.setRunning v).i = s.i := rfl
@[simp] theorem State.setRunning_dt (v : Bool) : (s.setRunning v).dt = s.dt := rfl
@[simp] theorem State.setRunning_st (v : Bool) : (s.setRunning v).st = s.st := rfl
@[simp] theorem State.setRunning_a (v : Bool) : (s.setRunning v).a = s.a := rfl
@[simp] theorem State.setRunning_x (v : Bool) : (s.setRunning v).x = s.x := rfl
@[simp] theorem State.setRunning_y (v : Bool) : (s.setRunning v).y = s.y := rfl
@[simp] theorem State.setRunning_c (v : Bool) : (s.setRunning v).c = s.c := rfl
@[simp] theorem State.setRunning_n (v : Bool) : (s.setRunning v).n = s.n := rfl
@[simp] theorem State.setRunning_z (v : Bool) : (s.setRunning v).z = s.z := rfl
@[simp] theorem State.setRunning_pc (v : Bool) : (s.setRunning v).pc = s.pc := rfl
@[simp] theorem State.setRunning_sp (v : Bool) : (s.setRunning v).sp = s.sp := rfl
@[simp] theorem State.setRunning_stack (v : Bool) : (s.setRunning v).stack = s.stack := rfl
@[simp] theorem State.setRunning_mem (v : Bool) : (s.setRunning v).mem = s.mem := rfl
@[simp] theorem State.setRunning_disp (v : Bool) : (s.setRunning v).disp = s.disp := rfl
@[simp] theorem State.setRunning_running (v : Bool) : (s.setRunning v).running = v := rfl
@[simp] theorem State.setRunning_gov (v : Bool) : (s.setRunning v).gov = s.gov := rfl
@[simp] theorem State.setRunning_diags (v : Bool) : (s.setRunning v).diags = s.diags := rfl
@[simp] theorem State.setRunning_executed (v : Bool) : (s.setRunning v).executed = s.executed := rfl
@[simp] theorem State.setRunning_inputs (v : Bool) : (s.setRunning v).inputs = s.inputs := rfl
@[simp] theorem State.setRunning_draws (v : Bool) : (s.setRunning v).draws = s.draws := rfl
@[simp] theorem State.setRunning_hostMoves (v : Bool) : (s.setRunning v).hostMoves = s.hostMoves := rfl

@[simp] theorem State.setRunCount_params (g : Option Nat) (e : Nat) : (s.setRunCount g e).params = s.params := rfl
@[simp] theorem State.setRunCount_rx (g : Option Nat) (e : Nat) : (s.setRunCount g e).rx = s.rx := rfl
@[simp] theorem State.setRunCount_ry (g : Option Nat) (e : Nat) : (s.setRunCount g e).ry = s.ry := rfl
@[simp] theorem State.setRunCount_f (g : Option Nat) (e : Nat) : (s.setRunCount g e).f = s.f := rfl
@[simp] theorem State.setRunCount_i (g : Option Nat) (e : Nat) : (s.setRunCount g e).i = s.i := rfl
@[simp] theorem State.setRunCount_dt (g : Option Nat) (e : Nat) : (s.setRunCount g e).dt = s.dt := rfl
@[simp] theorem State.setRunCount_st (g : Option Nat) (e : Nat) : (s.setRunCount g e).st = s.st := rfl
@[simp] theorem State.setRunCount_a (g : Option Nat) (e : Nat) : (s.setRunCount g e).a = s.a := rfl
@[simp] theorem State.setRunCount_x (g : Option Nat) (e : Nat) : (s.setRunCount g e).x = s.x := rfl
@[simp] theorem State.setRunCount_y (g : Option Nat) (e : Nat) : (s.setRunCount g e).y = s.y := rfl
@[simp] theorem State.setRunCount_c (g : Option Nat) (e : Nat) : (s.setRunCount g e).c = s.c := rfl
@[simp] theorem State.setRunCount_n (g : Option Nat) (e : Nat) : (s.setRunCount g e).n = s.n := rfl
@[simp] theorem State.setRunCount_z (g : Option Nat) (e : Nat) : (s.setRunCount g e).z = s.z := rfl
@[simp] theorem State.setRunCount_pc (g : Option Nat) (e : Nat) : (s.setRunCount g e).pc = s.pc := rfl
@[simp] theorem State.setRunCount_sp (g : Option Nat) (e : Nat) : (s.setRunCount g e).sp = s.sp := rfl
@[simp] theorem State.setRunCount_stack (g : Option Nat) (e : Nat) : (s.setRunCount g e).stack = s.stack := rfl
@[simp] theorem State.setRunCount_mem (g : Option Nat) (e : Nat) : (s.setRunCount g e).mem = s.mem := rfl
@[simp] theorem State.setRunCount_disp (g : Option Nat) (e : Nat) : (s.setRunCount g e).disp = s.disp := rfl
@[simp] theorem State.setRunCount_running (g : Option Nat) (e : Nat) : (s.setRunCount g e).running = s.running := rfl
@[simp] theorem State.setRunCount_gov (g : Option Nat) (e : Nat) : (s.setRunCount g e).gov = g := rfl
@[simp] theorem State.setRunCount_diags (g : Option Nat) (e : Nat) : (s.setRunCount g e).diags = s.diags := rfl
@[simp] theorem State.setRunCount_executed (g : Option Nat) (e : Nat) : (s.setRunCount g e).executed = e := rfl
@[simp] theorem State.setRunCount_inputs (g : Option Nat) (e : Nat) : (s.setRunCount g e).inputs = s.inputs := rfl
@[simp] theorem State.setRunCount_draws (g : Option Nat) (e : Nat) : (s.setRunCount g e).draws = s.draws := rfl
@[simp] theorem State.setRunCount_hostMoves (g : Option Nat) (e : Nat) : (s.setRunCount g e).hostMoves = s.hostMoves := rfl

@[simp] theorem State.setDiags_params (l : List DiagRecord) : (s.setDiags l).params = s.params := rfl
@[simp] theorem State.setDiags_rx (l : List DiagRecord) : (s.setDiags l).rx = s.rx := rfl
@[simp] theorem State.setDiags_ry (l : List DiagRecord) : (s.setDiags l).ry = s.ry := rfl
@[simp] theorem State.setDiags_f (l : List DiagRecord) : (s.setDiags l).f = s.f := rfl
@[simp] theorem State.setDiags_i (l : List DiagRecord) : (s.setDiags l).i = s.i := rfl
@[simp] theorem State.setDiags_dt (l : List DiagRecord) : (s.setDiags l).dt = s.dt := rfl
@[simp] theorem State.setDiags_st (l : List DiagRecord) : (s.setDiags l).st = s.st := rfl
@[simp] theorem State.setDiags_a (l : List DiagRecord) : (s.setDiags l).a = s.a := rfl
@[simp] theorem State.setDiags_x (l : List DiagRecord) : (s.setDiags l).x = s.x := rfl
@[simp] theorem State.setDiags_y (l : List DiagRecord) : (s.setDiags l).y = s.y := rfl
@[simp] theorem State.setDiags_c (l : List DiagRecord) : (s.setDiags l).c = s.c := rfl
@[simp] theorem State.setDiags_n (l : List DiagRecord) : (s.setDiags l).n = s.n := rfl
@[simp] theorem State.setDiags_z (l : List DiagRecord) : (s.setDiags l).z = s.z := rfl
@[simp] theorem State.setDiags_pc (l : List DiagRecord) : (s.setDiags l).pc = s.pc := rfl
@[simp] theorem State.setDiags_sp (l : List DiagRecord) : (s.setDiags l).sp = s.sp := rfl
@[simp] theorem State.setDiags_stack (l : List DiagRecord) : (s.setDiags l).stack = s.stack := rfl
@[simp] theorem State.setDiags_mem (l : List DiagRecord) : (s.setDiags l).mem = s.mem := rfl
@[simp] theorem State.setDiags_disp (l : List DiagRecord) : (s.setDiags l).disp = s.disp := rfl
@[simp] theorem State.setDiags_running (l : List DiagRecord) : (s.setDiags l).running = s.running := rfl
@[simp] theorem State.setDiags_gov (l : List DiagRecord) : (s.setDiags l).gov = s.gov := rfl
@[simp] theorem State.setDiags_diags (l : List DiagRecord) : (s.setDiags l).diags = l := rfl
@[simp] theorem State.setDiags_executed (l : List DiagRecord) : (s.setDiags l).executed = s.executed := rfl
@[simp] theorem State.setDiags_inputs (l : List DiagRecord) : (s.setDiags l).inputs = s.inputs := rfl
@[simp] theorem State.setDiags_draws (l : List DiagRecord) : (s.setDiags l).draws = s.draws := rfl
@[simp] theorem State.setDiags_hostMoves (l : List DiagRecord) : (s.setDiags l).hostMoves = s.hostMoves := rfl

@[simp] theorem State.setInputs_params (l : List Input) (d : Nat) : (s.setInputs l d).params = s.params := rfl
@[simp] theorem State.setInputs_rx (l : List Input) (d : Nat) : (s.setInputs l d).rx = s.rx := rfl
@[simp] theorem State.setInputs_ry (l : List Input) (d : Nat) : (s.setInputs l d).ry = s.ry := rfl
@[simp] theorem State.setInputs_f (l : List Input) (d : Nat) : (s.setInputs l d).f = s.f := rfl
@[simp] theorem State.setInputs_i (l : List Input) (d : Nat) : (s.setInputs l d).i = s.i := rfl
@[simp] theorem State.setInputs_dt (l : List Input) (d : Nat) : (s.setInputs l d).dt = s.dt := rfl
@[simp] theorem State.setInputs_st (l : List Input) (d : Nat) : (s.setInputs l d).st = s.st := rfl
@[simp] theorem State.setInputs_a (l : List Input) (d : Nat) : (s.setInputs l d).a = s.a := rfl
@[simp] theorem State.setInputs_x (l : List Input) (d : Nat) : (s.setInputs l d).x = s.x := rfl
@[simp] theorem State.setInputs_y (l : List Input) (d : Nat) : (s.setInputs l d).y = s.y := rfl
@[simp] theorem State.setInputs_c (l : List Input) (d : Nat) : (s.setInputs l d).c = s.c := rfl
@[simp] theorem State.setInputs_n (l : List Input) (d : Nat) : (s.setInputs l d).n = s.n := rfl
@[simp] theorem State.setInputs_z (l : List Input) (d : Nat) : (s.setInputs l d).z = s.z := rfl
@[simp] theorem State.setInputs_pc (l : List Input) (d : Nat) : (s.setInputs l d).pc = s.pc := rfl
@[simp] theorem State.setInputs_sp (l : List Input) (d : Nat) : (s.setInputs l d).sp = s.sp := rfl
@[simp] theorem State.setInputs_stack (l : List Input) (d : Nat) : (s.setInputs l d).stack = s.stack := rfl
@[simp] theorem State.setInputs_mem (l : List Input) (d : Nat) : (s.setInputs l d).mem = s.mem := rfl
@[simp] theorem State.setInputs_disp (l : List Input) (d : Nat) : (s.setInputs l d).disp = s.disp := rfl
@[simp] theorem State.setInputs_running (l : List Input) (d : Nat) : (s.setInputs l d).running = s.running := rfl
@[simp] theorem State.setInputs_gov (l : List Input) (d : Nat) : (s.setInputs l d).gov = s.gov := rfl
@[simp] theorem State.setInputs_diags (l : List Input) (d : Nat) : (s.setInputs l d).diags = s.diags := rfl
@[simp] theorem State.setInputs_executed (l : List Input) (d : Nat) : (s.setInputs l d).executed = s.executed := rfl
@[simp] theorem State.setInputs_inputs (l : List Input) (d : Nat) : (s.setInputs l d).inputs = l := rfl
@[simp] theorem State.setInputs_draws (l : List Input) (d : Nat) : (s.setInputs l d).draws = d := rfl
@[simp] theorem State.setInputs_hostMoves (l : List Input) (d : Nat) : (s.setInputs l d).hostMoves = s.hostMoves := rfl

@[simp] theorem State.setHostMoves_params (l : List HostMove) : (s.setHostMoves l).params = s.params := rfl
@[simp] theorem State.setHostMoves_rx (l : List HostMove) : (s.setHostMoves l).rx = s.rx := rfl
@[simp] theorem State.setHostMoves_ry (l : List HostMove) : (s.setHostMoves l).ry = s.ry := rfl
@[simp] theorem State.setHostMoves_f (l : List HostMove) : (s.setHostMoves l).f = s.f := rfl
@[simp] theorem State.setHostMoves_i (l : List HostMove) : (s.setHostMoves l).i = s.i := rfl
@[simp] theorem State.setHostMoves_dt (l : List HostMove) : (s.setHostMoves l).dt = s.dt := rfl
@[simp] theorem State.setHostMoves_st (l : List HostMove) : (s.setHostMoves l).st = s.st := rfl
@[simp] theorem State.setHostMoves_a (l : List HostMove) : (s.setHostMoves l).a = s.a := rfl
@[simp] theorem State.setHostMoves_x (l : List HostMove) : (s.setHostMoves l).x = s.x := rfl
@[simp] theorem State.setHostMoves_y (l : List HostMove) : (s.setHostMoves l).y = s.y := rfl
@[simp] theorem State.setHostMoves_c (l : List HostMove) : (s.setHostMoves l).c = s.c := rfl
@[simp] theorem State.setHostMoves_n (l : List HostMove) : (s.setHostMoves l).n = s.n := rfl
@[simp] theorem State.setHostMoves_z (l : List HostMove) : (s.setHostMoves l).z = s.z := rfl
@[simp] theorem State.setHostMoves_pc (l : List HostMove) : (s.setHostMoves l).pc = s.pc := rfl
@[simp] theorem State.setHostMoves_sp (l : List HostMove) : (s.setHostMoves l).sp = s.sp := rfl
@[simp] theorem State.setHostMoves_stack (l : List HostMove) : (s.setHostMoves l).stack = s.stack := rfl
@[simp] theorem State.setHostMoves_mem (l : List HostMove) : (s.setHostMoves l).mem = s.mem := rfl
@[simp] theorem State.setHostMoves_disp (l : List HostMove) : (s.setHostMoves l).disp = s.disp := rfl
@[simp] theorem State.setHostMoves_running (l : List HostMove) : (s.setHostMoves l).running = s.running := rfl
@[simp] theorem State.setHostMoves_gov (l : List HostMove) : (s.setHostMoves l).gov = s.gov := rfl
@[simp] theorem State.setHostMoves_diags (l : List HostMove) : (s.setHostMoves l).diags = s.diags := rfl
@[simp] theorem State.setHostMoves_executed (l : List HostMove) : (s.setHostMoves l).executed = s.executed := rfl
@[simp] theorem State.setHostMoves_inputs (l : List HostMove) : (s.setHostMoves l).inputs = s.inputs := rfl
@[simp] theorem State.setHostMoves_draws (l : List HostMove) : (s.setHostMoves l).draws = s.draws := rfl
@[simp] theorem State.setHostMoves_hostMoves (l : List HostMove) : (s.setHostMoves l).hostMoves = l := rfl

@[simp] theorem State.setVariant_params (v : Variant) : (s.setVariant v).params = { s.params with variant := v } := rfl
@[simp] theorem State.setVariant_rx (v : Variant) : (s.setVariant v).rx = s.rx := rfl
@[simp] theorem State.setVariant_ry (v : Variant) : (s.setVariant v).ry = s.ry := rfl
@[simp] theorem State.setVariant_f (v : Variant) : (s.setVariant v).f = s.f := rfl
@[simp] theorem State.setVariant_i (v : Variant) : (s.setVariant v).i = s.i := rfl
@[simp] theorem State.setVariant_dt (v : Variant) : (s.setVariant v).dt = s.dt := rfl
@[simp] theorem State.setVariant_st (v : Variant) : (s.setVariant v).st = s.st := rfl
@[simp] theorem State.setVariant_a (v : Variant) : (s.setVariant v).a = s.a := rfl
@[simp] theorem State.setVariant_x (v : Variant) : (s.setVariant v).x = s.x := rfl
@[simp] theorem State.setVariant_y (v : Variant) : (s.setVariant v).y = s.y := rfl
@[simp] theorem State.setVariant_c (v : Variant) : (s.setVariant v).c = s.c := rfl
@[simp] theorem State.setVariant_n (v : Variant) : (s.setVariant v).n = s.n := rfl
@[simp] theorem State.setVariant_z (v : Variant) : (s.setVariant v).z = s.z := rfl
@[simp] theorem State.setVariant_pc (v : Variant) : (s.setVariant v).pc = s.pc := rfl
@[simp] theorem State.setVariant_sp (v : Variant) : (s.setVariant v).sp = s.sp := rfl
@[simp] theorem State.setVariant_stack (v : Variant) : (s.setVariant v).stack = s.stack := rfl
@[simp] theorem State.setVariant_mem (v : Variant) : (s.setVariant v).mem = s.mem := rfl
@[simp] theorem State.setVariant_disp (v : Variant) : (s.setVariant v).disp = s.disp := rfl
@[simp] theorem State.setVariant_running (v : Variant) : (s.setVariant v).running = s.running := rfl
@[simp] theorem State.setVariant_gov (v : Variant) : (s.setVariant v).gov = s.gov := rfl
@[simp] theorem State.setVariant_diags (v : Variant) : (s.setVariant v).diags = s.diags := rfl
@[simp] theorem State.setVariant_executed (v : Variant) : (s.setVariant v).executed = s.executed := rfl
@[simp] theorem State.setVariant_inputs (v : Variant) : (s.setVariant v).inputs = s.inputs := rfl
@[simp] theorem State.setVariant_draws (v : Variant) : (s.setVariant v).draws = s.draws := rfl
@[simp] theorem State.setVariant_hostMoves (v : Variant) : (s.setVariant v).hostMoves = s.hostMoves := rfl

end

end Sys2Proof.Machine
end

