-- ==== Sys2Proof/Laws/Ops.lean ====
section
/-! SUPPORT. What each shared operation can do, once: which part of the state it replaces, and that it keeps the
canonical form of what it replaces. -/

namespace Sys2Proof.Machine

/-! ### Main memory -/

theorem read8_of_mem_eq {s t : State} (h : t.mem = s.mem) (addr : Nat) : t.read8 addr = s.read8 addr := by
  unfold State.read8; rw [h]

theorem read16_of_mem_eq {s t : State} (h : t.mem = s.mem) (addr : Nat) : t.read16 addr = s.read16 addr := by
  unfold State.read16; rw [read8_of_mem_eq h, read8_of_mem_eq h]

theorem read8_mod (s : State) (addr : Nat) : s.read8 (addr % 65536) = s.read8 addr := by
  simp [State.read8]

/-- `write8` replaces main memory and nothing else. -/
theorem write8_eq_setMem (s : State) (addr : Nat) (v : Byte) :
    s.write8 addr v = s.setMem (writeCell s.mem (addr % 65536) v) := rfl

@[simp] theorem write8_params (s : State) (addr : Nat) (v : Byte) : (s.write8 addr v).params = s.params := rfl

/-- A byte read after a byte write. -/
theorem read8_write8 (s : State) (addr : Nat) (v : Byte) (addr' : Nat) :
    (s.write8 addr v).read8 addr' = if addr' % 65536 = addr % 65536 then v else s.read8 addr' := by
  simp [State.read8, State.write8, readCell_writeCell]

/-- `write8` keeps memory's canonical form. -/
theorem write8_mem_wf {s : State} (h : Memory.wf s.mem) (addr : Nat) (v : Byte) : Memory.wf (s.write8 addr v).mem :=
  cellsWf_writeCell h (Nat.mod_lt _ (by omega)) v

/-- Every operation that only replaces main memory. -/
def OnlyMem (s t : State) : Prop :=
  t = s.setMem t.mem

theorem OnlyMem.refl (s : State) : OnlyMem s s := rfl

theorem OnlyMem.trans {s t u : State} (h : OnlyMem s t) (k : OnlyMem t u) : OnlyMem s u := by
  unfold OnlyMem at *
  rw [k, h]; rfl

theorem onlyMem_write8 (s : State) (addr : Nat) (v : Byte) : OnlyMem s (s.write8 addr v) := rfl

/-- `write16` replaces main memory and nothing else. -/
theorem onlyMem_write16 (s : State) (addr : Nat) (v : Word) : OnlyMem s (s.write16 addr v) := by
  unfold State.write16
  split
  · exact (onlyMem_write8 ..).trans (onlyMem_write8 ..)
  · split
    · exact .refl s
    · exact onlyMem_write8 ..
    · exact (onlyMem_write8 ..).trans (onlyMem_write8 ..)

/-- `write16` keeps memory's canonical form. -/
theorem write16_mem_wf {s : State} (h : Memory.wf s.mem) (addr : Nat) (v : Word) :
    Memory.wf (s.write16 addr v).mem := by
  unfold State.write16
  split
  · exact write8_mem_wf (write8_mem_wf h _ _) _ _
  · split
    · exact h
    · exact write8_mem_wf h _ _
    · exact write8_mem_wf (write8_mem_wf h _ _) _ _

theorem memReset_mem_wf (s : State) : Memory.wf s.memReset.mem := cellsWf_nil _

theorem onlyMem_writeImage (s : State) (addr : Nat) (image : List Byte) : OnlyMem s (s.writeImage addr image) := by
  induction image generalizing s addr with
  | nil => exact .refl s
  | cons v image ih =>
    unfold State.writeImage
    split
    · exact (onlyMem_write8 s addr v).trans (ih ..)
    · exact .refl s

/-- `writeImage` keeps memory's canonical form. -/
theorem writeImage_mem_wf {s : State} (h : Memory.wf s.mem) (addr : Nat) (image : List Byte) :
    Memory.wf (s.writeImage addr image).mem := by
  induction image generalizing s addr with
  | nil => exact h
  | cons v image ih =>
    unfold State.writeImage
    split
    · exact ih (write8_mem_wf h _ _) _
    · exact h

theorem onlyMem_writeFetchBytes (s : State) (addr : Nat) (bytes : List Byte) :
    OnlyMem s (s.writeFetchBytes addr bytes) := by
  induction bytes generalizing s addr with
  | nil => exact .refl s
  | cons v bytes ih =>
    unfold State.writeFetchBytes
    exact (onlyMem_write8 s addr v).trans (ih ..)

/-- `writeFetchBytes` keeps memory's canonical form. -/
theorem writeFetchBytes_mem_wf {s : State} (h : Memory.wf s.mem) (addr : Nat) (bytes : List Byte) :
    Memory.wf (s.writeFetchBytes addr bytes).mem := by
  induction bytes generalizing s addr with
  | nil => exact h
  | cons v bytes ih => exact ih (write8_mem_wf h _ _) _

/-- `loadProgram` replaces main memory and `pc` and nothing else. -/
theorem loadProgram_eq (s : State) (image : List Byte) :
    ∃ m pc, (Memory.wf s.mem → Memory.wf m) ∧ s.loadProgram image = (s.setMem m).setPc pc := by
  refine ⟨(s.writeImage s.pc.toNat image).mem, (s.writeImage s.pc.toNat image).read16 0x0000,
    fun h => writeImage_mem_wf h _ _, ?_⟩
  exact congrArg (·.setPc ((s.writeImage s.pc.toNat image).read16 0x0000)) (onlyMem_writeImage s s.pc.toNat image)

/-! ### Fetch, control, stack -/

theorem fetch8_eq (s : State) : s.fetch8 = (s.read8 s.pc.toNat, s.setPc (s.pc + 1)) := rfl

theorem fetch16_eq (s : State) : s.fetch16 = (s.read16 s.pc.toNat, s.setPc (s.pc + 2)) := rfl

/-- The fetch of a cycle replaces `pc` and nothing else. -/
theorem fetchInstr_eq_setPc (s : State) : ∃ pc, s.fetchInstr.2 = s.setPc pc := by
  unfold State.fetchInstr
  simp only [fetch8_eq, fetch16_eq]
  split <;> exact ⟨_, rfl⟩

/-- `skipIf` replaces `pc` and nothing else. -/
theorem skipIf_eq_setPc (s : State) (cond : Bool) :
    s.skipIf cond =
      s.setPc (if cond then s.pc + BitVec.ofNat 16 (lenOf .b (s.read8 s.pc.toNat)) else s.pc) := by
  cases cond <;> rfl

/-- `branchI` replaces `pc` and nothing else. -/
theorem branchI_eq_setPc (s : State) (cond : Bool) : s.branchI cond = s.setPc (if cond then s.i else s.pc) := by
  cases cond <;> rfl

/-- `branchRel` replaces `pc` and nothing else. -/
theorem branchRel_eq_setPc (s : State) (cond : Bool) (d : Byte) :
    s.branchRel cond d = s.setPc (if cond then s.pc + sext16 d else s.pc) := by
  cases cond <;> rfl

/-- The slots after a push: the pushed value in the slot `sp` then names, the others as before. -/
theorem slot_push (s : State) (v : Word) (k : BitVec 8) :
    (s.push v).slot k = if k = s.sp + 1 then v else s.slot k := by
  simp only [State.slot, State.push, State.setStack_stack]
  rw [Vector.getElem_set]
  simp only [← BitVec.toNat_inj, eq_comm]

@[simp] theorem slot_setPc (s : State) (v : Word) (k : BitVec 8) : (s.setPc v).slot k = s.slot k := rfl

@[simp] theorem slot_pop (s : State) (k : BitVec 8) : s.pop.slot k = s.slot k := rfl

/-! ### Timers, display, the run loop -/

/-- `timerTick` replaces the two timers and nothing else. -/
theorem timerTick_eq (s : State) : ∃ dt st, s.timerTick = (s.setDt dt).setSt st := by
  unfold State.timerTick
  split
  · exact ⟨_, _, rfl⟩
  · exact ⟨s.dt, s.st, rfl⟩

/-- `displayMove` replaces the display and nothing else, and keeps its canonical form. -/
theorem displayMove_eq (s : State) (move : DisplayMove) :
    ∃ d, (DisplayWf s.params s.disp → DisplayWf s.params d) ∧ s.displayMove move = s.setDisp d :=
  ⟨_, fun h => displayWf_applyDisplayMove h move, rfl⟩

/-- After `keepMoves` the next sample is as before but for its display calls. -/
theorem keepMoves_sample (s : State) (moves : List DisplayMove) :
    (s.keepMoves moves).sample = { s.sample with displayMoves := moves } := rfl

/-- `endCycle` replaces the governor, the count of executed cycles and the environment's samples and nothing else. -/
theorem endCycle_eq (s : State) :
    s.endCycle = (s.setRunCount (s.gov.map (· - 1)) (s.executed + 1)).setInputs s.inputs.tail (s.draws + 1) := rfl

/-- `startRun` replaces the governor, the count of executed cycles and the running flag and nothing else. -/
theorem startRun_eq (s : State) (limit : Option Nat) :
    s.startRun limit = (s.setRunCount limit 0).setRunning true := rfl

@[simp] theorem andThen_next (s : State) (g : State → State) : andThen (.next s) g = .next (g s) := rfl

end Sys2Proof.Machine
end

