-- ==== Sys2Proof/Laws/Frames.lean ====
section
/-! SUPPORT. Frames: how they combine, the frame of every update of State, and the frame of every shared operation. -/

namespace Sys2Proof.Machine

theorem Part.Same.refl (s : State) (p : Part) : p.Same s s := by
  cases p <;> first | exact rfl | exact fun _ => rfl | exact fun _ _ => rfl

theorem Part.Same.trans {s t u : State} {p : Part} (h : p.Same s t) (k : p.Same t u) : p.Same s u := by
  cases p <;>
    first
    | exact Eq.trans k h
    | exact fun a => Eq.trans (k a) (h a)
    | exact fun a b => Eq.trans (k a b) (h a b)

theorem Frame.refl (s : State) : Frame [] s s := fun p _ => .refl s p

/-- A frame that lists more parts says less. -/
theorem Frame.mono {l m : List Part} {s t : State} (h : Frame l s t) (sub : ∀ p ∈ l, p ∈ m) : Frame m s t :=
  fun p hp => h p fun hl => hp (sub p hl)

/-- Two changes in a row touch what either touches. -/
theorem Frame.trans {l m : List Part} {s t u : State} (h : Frame l s t) (k : Frame m t u) : Frame (l ++ m) s u :=
  fun p hp => (h p fun hl => hp (List.mem_append_left m hl)).trans (k p fun hm => hp (List.mem_append_right l hm))

/-! ### Updates -/

section
variable (s : State)

theorem frame_setRx (v : Byte) : Frame [.rx] s (s.setRx v) := by
  intro p hp
  cases p <;>
    first | exact absurd (by decide) hp | exact rfl | exact fun _ => rfl | exact fun _ _ => rfl

theorem frame_setRy (v : Byte) : Frame [.ry] s (s.setRy v) := by
  intro p hp
  cases p <;>
    first | exact absurd (by decide) hp | exact rfl | exact fun _ => rfl | exact fun _ _ => rfl

theorem frame_setF (v : Byte) : Frame [.f] s (s.setF v) := by
  intro p hp
  cases p <;>
    first | exact absurd (by decide) hp | exact rfl | exact fun _ => rfl | exact fun _ _ => rfl

theorem frame_setI (v : Word) : Frame [.i] s (s.setI v) := by
  intro p hp
  cases p <;>
    first | exact absurd (by decide) hp | exact rfl | exact fun _ => rfl | exact fun _ _ => rfl

theorem frame_setDt (v : Byte) : Frame [.dt] s (s.setDt v) := by
  intro p hp
  cases p <;>
    first | exact absurd (by decide) hp | exact rfl | exact fun _ => rfl | exact fun _ _ => rfl

theorem frame_setSt (v : Byte) : Frame [.st] s (s.setSt v) := by
  intro p hp
  cases p <;>
    first | exact absurd (by decide) hp | exact rfl | exact fun _ => rfl | exact fun _ _ => rfl

theorem frame_setA (v : Word) : Frame [.a] s (s.setA v) := by
  intro p hp
  cases p <;>
    first | exact absurd (by decide) hp | exact rfl | exact fun _ => rfl | exact fun _ _ => rfl

theorem frame_setX (v : Word) : Frame [.x] s (s.setX v) := by
  intro p hp
  cases p <;>
    first | exact absurd (by decide) hp | exact rfl | exact fun _ => rfl | exact fun _ _ => rfl

theorem frame_setY (v : Word) : Frame [.y] s (s.setY v) := by
  intro p hp
  cases p <;>
    first | exact absurd (by decide) hp | exact rfl | exact fun _ => rfl | exact fun _ _ => rfl

theorem frame_setC (v : Bool) : Frame [.c] s (s.setC v) := by
  intro p hp
  cases p <;>
    first | exact absurd (by decide) hp | exact rfl | exact fun _ => rfl | exact fun _ _ => rfl

theorem frame_setN (v : Bool) : Frame [.n] s (s.setN v) := by
  intro p hp
  cases p <;>
    first | exact absurd (by decide) hp | exact rfl | exact fun _ => rfl | exact fun _ _ => rfl

theorem frame_setZ (v : Bool) : Frame [.z] s (s.setZ v) := by
  intro p hp
  cases p <;>
    first | exact absurd (by decide) hp | exact rfl | exact fun _ => rfl | exact fun _ _ => rfl

theorem frame_setPc (v : Word) : Frame [.pc] s (s.setPc v) := by
  intro p hp
  cases p <;>
    first | exact absurd (by decide) hp | exact rfl | exact fun _ => rfl | exact fun _ _ => rfl

theorem frame_setMem (v : List Host.Cell) : Frame [.mem] s (s.setMem v) := by
  intro p hp
  cases p <;>
    first | exact absurd (by decide) hp | exact rfl | exact fun _ => rfl | exact fun _ _ => rfl

theorem frame_setDisp (v : List Host.Cell) : Frame [.disp] s (s.setDisp v) := by
  intro p hp
  cases p <;> first | exact absurd (by decide) hp | exact rfl | exact fun _ => rfl

theorem frame_setRunning (v : Bool) : Frame [.running] s (s.setRunning v) := by
  intro p hp
  cases p <;>
    first | exact absurd (by decide) hp | exact rfl | exact fun _ => rfl | exact fun _ _ => rfl

theorem frame_setDiags (v : List DiagRecord) : Frame [.diags] s (s.setDiags v) := by
  intro p hp
  cases p <;>
    first | exact absurd (by decide) hp | exact rfl | exact fun _ => rfl | exact fun _ _ => rfl

theorem frame_setHostMoves (v : List HostMove) : Frame [.hostMoves] s (s.setHostMoves v) := by
  intro p hp
  cases p <;>
    first | exact absurd (by decide) hp | exact rfl | exact fun _ => rfl | exact fun _ _ => rfl

theorem frame_setStack (sp : BitVec 8) (slots : Vector Word 256) :
    Frame [.sp, .stack] s (s.setStack sp slots) := by
  intro p hp
  cases p <;>
    first | exact absurd (by decide) hp | exact rfl | exact fun _ => rfl | exact fun _ _ => rfl

theorem frame_setRunCount (g : Option Nat) (executed : Nat) :
    Frame [.gov, .executed] s (s.setRunCount g executed) := by
  intro p hp
  cases p <;>
    first | exact absurd (by decide) hp | exact rfl | exact fun _ => rfl | exact fun _ _ => rfl

theorem frame_setInputs (inputs : List Input) (draws : Nat) :
    Frame [.inputs, .draws] s (s.setInputs inputs draws) := by
  intro p hp
  cases p <;>
    first | exact absurd (by decide) hp | exact rfl | exact fun _ => rfl | exact fun _ _ => rfl

end

/-! ### Shared operations -/

section
variable (s : State)

theorem frame_write8 (addr : Nat) (v : Byte) : Frame [.mem] s (s.write8 addr v) := frame_setMem s _

theorem OnlyMem.frame {t : State} (h : OnlyMem s t) : Frame [.mem] s t := by
  rw [h]
  exact frame_setMem s _

theorem frame_write16 (addr : Nat) (v : Word) : Frame [.mem] s (s.write16 addr v) := (onlyMem_write16 s addr v).frame

theorem frame_loadProgram (image : List Byte) : Frame [.mem, .pc] s (s.loadProgram image) := by
  obtain ⟨m, pc, -, h⟩ := loadProgram_eq s image
  rw [h]
  exact (frame_setMem s m).trans (frame_setPc _ pc)

theorem frame_fetchInstr : Frame [.pc] s s.fetchInstr.2 := by
  obtain ⟨pc, h⟩ := fetchInstr_eq_setPc s
  rw [h]
  exact frame_setPc s pc

theorem frame_skipIf (cond : Bool) : Frame [.pc] s (s.skipIf cond) := by
  rw [skipIf_eq_setPc]
  exact frame_setPc s _

theorem frame_branchI (cond : Bool) : Frame [.pc] s (s.branchI cond) := by
  rw [branchI_eq_setPc]
  exact frame_setPc s _

theorem frame_branchRel (cond : Bool) (d : Byte) : Frame [.pc] s (s.branchRel cond d) := by
  rw [branchRel_eq_setPc]
  exact frame_setPc s _

theorem frame_push (v : Word) : Frame [.sp, .stack] s (s.push v) := frame_setStack s _ _

theorem frame_pop : Frame [.sp] s s.pop := by
  intro p hp
  cases p <;> first | exact absurd (by decide) hp | exact rfl | exact fun _ => rfl | exact fun _ _ => rfl

theorem frame_call (target : Word) : Frame [.pc, .sp, .stack] s (s.call target) :=
  ((frame_push s s.pc).trans (frame_setPc _ target)).mono (by decide)

theorem frame_ret : Frame [.pc, .sp] s s.ret :=
  ((frame_pop s).trans (frame_setPc _ s.top)).mono (by decide)

theorem frame_setRxF (r : Byte) (b : Bool) : Frame [.rx, .f] s (s.setRxF r b) :=
  (frame_setRx s r).trans (frame_setF _ _)

theorem frame_setNZ (r : Word) : Frame [.n, .z] s (s.setNZ r) :=
  (frame_setN s _).trans (frame_setZ _ _)

theorem frame_logicResult (r : Word) : Frame [.a, .n, .z] s (s.logicResult r) :=
  (frame_setA s r).trans (frame_setNZ _ r)

theorem frame_addA (m : Word) : Frame [.a, .c, .n, .z] s (s.addA m) :=
  ((frame_setA s _).trans (frame_setC _ _)).trans (frame_setNZ _ _)

theorem frame_compareA (m : Word) : Frame [.c, .n, .z] s (s.compareA m) :=
  (frame_setC s _).trans (frame_setNZ _ _)

theorem frame_subA (m : Word) : Frame [.a, .c, .n, .z] s (s.subA m) :=
  ((frame_compareA s m).trans (frame_setA _ _)).mono (by decide)

theorem frame_shiftResult (r : Word) (b : Bool) : Frame [.a, .c, .n, .z] s (s.shiftResult r b) :=
  ((frame_setA s r).trans (frame_setC _ b)).trans (frame_setNZ _ r)

theorem frame_timerTick : Frame [.dt, .st] s s.timerTick := by
  obtain ⟨dt, st, h⟩ := timerTick_eq s
  rw [h]
  exact (frame_setDt s dt).trans (frame_setSt _ st)

theorem frame_displayMove (move : DisplayMove) : Frame [.disp] s (s.displayMove move) := frame_setDisp s _

theorem frame_keepMoves (moves : List DisplayMove) : Frame [.inputs, .draws] s (s.keepMoves moves) :=
  frame_setInputs s _ _

theorem frame_consumeInput : Frame [.inputs, .draws] s s.consumeInput := frame_setInputs s _ _

theorem frame_endCycle : Frame [.gov, .executed, .inputs, .draws] s s.endCycle :=
  (frame_setRunCount s _ _).trans (frame_consumeInput _)

theorem frame_diag (kind : DiagKind) (op : Byte) (addr : Word) : Frame [.diags] s (s.diag kind op addr) :=
  frame_setDiags s _

theorem frame_startRun (limit : Option Nat) : Frame [.gov, .executed, .running] s (s.startRun limit) :=
  (frame_setRunCount s limit 0).trans (frame_setRunning _ true)

end

end Sys2Proof.Machine
end

