-- ==== Sys2Proof/Laws/PerInstr.lean ====
section
/-! SUPPORT. Per instruction: the encoding has the length its opcode byte says (30_encoding.md R100, R106). -/

namespace Sys2Proof.Laws.EncodedLength

/-- The encoding of an instruction begins with its opcode byte and is as long as that byte says in the instruction's
variant. -/
def Statement (i : Instr) : Prop :=
  (encode i).head? = some (opcodeOf i) ∧ (encode i).length = lenOf i.variant (opcodeOf i)

theorem bJp (addr : Word) : Statement (.bJp addr) := ⟨rfl, rfl⟩
theorem bCall (addr : Word) : Statement (.bCall addr) := ⟨rfl, rfl⟩
theorem bSeRxImm (imm : Byte) : Statement (.bSeRxImm imm) := ⟨rfl, rfl⟩
theorem bSeRyImm (imm : Byte) : Statement (.bSeRyImm imm) := ⟨rfl, rfl⟩
theorem bSneRxImm (imm : Byte) : Statement (.bSneRxImm imm) := ⟨rfl, rfl⟩
theorem bSneRyImm (imm : Byte) : Statement (.bSneRyImm imm) := ⟨rfl, rfl⟩
theorem bSeRxRy : Statement (.bSeRxRy) := ⟨rfl, rfl⟩
theorem bLdRxImm (imm : Byte) : Statement (.bLdRxImm imm) := ⟨rfl, rfl⟩
theorem bLdRyImm (imm : Byte) : Statement (.bLdRyImm imm) := ⟨rfl, rfl⟩
theorem bAddRxImm (imm : Byte) : Statement (.bAddRxImm imm) := ⟨rfl, rfl⟩
theorem bAddRyImm (imm : Byte) : Statement (.bAddRyImm imm) := ⟨rfl, rfl⟩
theorem bLdRxRy : Statement (.bLdRxRy) := ⟨rfl, rfl⟩
theorem bOr : Statement (.bOr) := ⟨rfl, rfl⟩
theorem bAnd : Statement (.bAnd) := ⟨rfl, rfl⟩
theorem bXor : Statement (.bXor) := ⟨rfl, rfl⟩
theorem bAddRxRy : Statement (.bAddRxRy) := ⟨rfl, rfl⟩
theorem bSub : Statement (.bSub) := ⟨rfl, rfl⟩
theorem bShr : Statement (.bShr) := ⟨rfl, rfl⟩
theorem bSubn : Statement (.bSubn) := ⟨rfl, rfl⟩
theorem bLdRyRx : Statement (.bLdRyRx) := ⟨rfl, rfl⟩
theorem bLdRxF : Statement (.bLdRxF) := ⟨rfl, rfl⟩
theorem bShl : Statement (.bShl) := ⟨rfl, rfl⟩
theorem bSneRxRy : Statement (.bSneRxRy) := ⟨rfl, rfl⟩
theorem bLdI (addr : Word) : Statement (.bLdI addr) := ⟨rfl, rfl⟩
theorem bExit : Statement (.bExit) := ⟨rfl, rfl⟩
theorem bJpRx (addr : Word) : Statement (.bJpRx addr) := ⟨rfl, rfl⟩
theorem bDrw (n : Byte) : Statement (.bDrw n) := ⟨rfl, rfl⟩
theorem bCls : Statement (.bCls) := ⟨rfl, rfl⟩
theorem bSkp : Statement (.bSkp) := ⟨rfl, rfl⟩
theorem bSknp : Statement (.bSknp) := ⟨rfl, rfl⟩
theorem bRet : Statement (.bRet) := ⟨rfl, rfl⟩
theorem bLdMemRx : Statement (.bLdMemRx) := ⟨rfl, rfl⟩
theorem bLdMemRy : Statement (.bLdMemRy) := ⟨rfl, rfl⟩
theorem bLdRxMem : Statement (.bLdRxMem) := ⟨rfl, rfl⟩
theorem bBcd : Statement (.bBcd) := ⟨rfl, rfl⟩
theorem bLdRyMem : Statement (.bLdRyMem) := ⟨rfl, rfl⟩
theorem bLdDtRx : Statement (.bLdDtRx) := ⟨rfl, rfl⟩
theorem bLdRxDt : Statement (.bLdRxDt) := ⟨rfl, rfl⟩
theorem bLdStRx : Statement (.bLdStRx) := ⟨rfl, rfl⟩
theorem bLdRxK : Statement (.bLdRxK) := ⟨rfl, rfl⟩
theorem bAddIRx : Statement (.bAddIRx) := ⟨rfl, rfl⟩
theorem aInt : Statement (.aInt) := ⟨rfl, rfl⟩
theorem aHlt : Statement (.aHlt) := ⟨rfl, rfl⟩
theorem aNop : Statement (.aNop) := ⟨rfl, rfl⟩
theorem aLdaImm (imm : Word) : Statement (.aLdaImm imm) := ⟨rfl, rfl⟩
theorem aLdxImm (imm : Word) : Statement (.aLdxImm imm) := ⟨rfl, rfl⟩
theorem aLdyImm (imm : Word) : Statement (.aLdyImm imm) := ⟨rfl, rfl⟩
theorem aLdiImm (imm : Word) : Statement (.aLdiImm imm) := ⟨rfl, rfl⟩
theorem aLdaMem : Statement (.aLdaMem) := ⟨rfl, rfl⟩
theorem aLdxMem : Statement (.aLdxMem) := ⟨rfl, rfl⟩
theorem aLdyMem : Statement (.aLdyMem) := ⟨rfl, rfl⟩
theorem aStaMem : Statement (.aStaMem) := ⟨rfl, rfl⟩
theorem aStxMem : Statement (.aStxMem) := ⟨rfl, rfl⟩
theorem aStyMem : Statement (.aStyMem) := ⟨rfl, rfl⟩
theorem aTax : Statement (.aTax) := ⟨rfl, rfl⟩
theorem aTay : Statement (.aTay) := ⟨rfl, rfl⟩
theorem aTai : Statement (.aTai) := ⟨rfl, rfl⟩
theorem aTxa : Statement (.aTxa) := ⟨rfl, rfl⟩
theorem aTxy : Statement (.aTxy) := ⟨rfl, rfl⟩
theorem aTxi : Statement (.aTxi) := ⟨rfl, rfl⟩
theorem aTya : Statement (.aTya) := ⟨rfl, rfl⟩
theorem aTyx : Statement (.aTyx) := ⟨rfl, rfl⟩
theorem aTyi : Statement (.aTyi) := ⟨rfl, rfl⟩
theorem aTia : Statement (.aTia) := ⟨rfl, rfl⟩
theorem aTix : Statement (.aTix) := ⟨rfl, rfl⟩
theorem aTiy : Statement (.aTiy) := ⟨rfl, rfl⟩
theorem aJmp (addr : Word) : Statement (.aJmp addr) := ⟨rfl, rfl⟩
theorem aJmpI : Statement (.aJmpI) := ⟨rfl, rfl⟩
theorem aCall (addr : Word) : Statement (.aCall addr) := ⟨rfl, rfl⟩
theorem aCallI : Statement (.aCallI) := ⟨rfl, rfl⟩
theorem aRet : Statement (.aRet) := ⟨rfl, rfl⟩
theorem aAndImm (imm : Word) : Statement (.aAndImm imm) := ⟨rfl, rfl⟩
theorem aAndMem : Statement (.aAndMem) := ⟨rfl, rfl⟩
theorem aAndX : Statement (.aAndX) := ⟨rfl, rfl⟩
theorem aAndY : Statement (.aAndY) := ⟨rfl, rfl⟩
theorem aOrImm (imm : Word) : Statement (.aOrImm imm) := ⟨rfl, rfl⟩
theorem aOrMem : Statement (.aOrMem) := ⟨rfl, rfl⟩
theorem aOrX : Statement (.aOrX) := ⟨rfl, rfl⟩
theorem aOrY : Statement (.aOrY) := ⟨rfl, rfl⟩
theorem aXorImm (imm : Word) : Statement (.aXorImm imm) := ⟨rfl, rfl⟩
theorem aXorMem : Statement (.aXorMem) := ⟨rfl, rfl⟩
theorem aXorX : Statement (.aXorX) := ⟨rfl, rfl⟩
theorem aXorY : Statement (.aXorY) := ⟨rfl, rfl⟩
theorem aAddImm (imm : Word) : Statement (.aAddImm imm) := ⟨rfl, rfl⟩
theorem aAddMem : Statement (.aAddMem) := ⟨rfl, rfl⟩
theorem aAddX : Statement (.aAddX) := ⟨rfl, rfl⟩
theorem aAddY : Statement (.aAddY) := ⟨rfl, rfl⟩
theorem aSubImm (imm : Word) : Statement (.aSubImm imm) := ⟨rfl, rfl⟩
theorem aSubMem : Statement (.aSubMem) := ⟨rfl, rfl⟩
theorem aSubX : Statement (.aSubX) := ⟨rfl, rfl⟩
theorem aSubY : Statement (.aSubY) := ⟨rfl, rfl⟩
theorem aCmpImm (imm : Word) : Statement (.aCmpImm imm) := ⟨rfl, rfl⟩
theorem aCmpMem : Statement (.aCmpMem) := ⟨rfl, rfl⟩
theorem aCmpX : Statement (.aCmpX) := ⟨rfl, rfl⟩
theorem aCmpY : Statement (.aCmpY) := ⟨rfl, rfl⟩
theorem aShl : Statement (.aShl) := ⟨rfl, rfl⟩
theorem aShr : Statement (.aShr) := ⟨rfl, rfl⟩
theorem aRol : Statement (.aRol) := ⟨rfl, rfl⟩
theorem aRor : Statement (.aRor) := ⟨rfl, rfl⟩
theorem aBcsI : Statement (.aBcsI) := ⟨rfl, rfl⟩
theorem aBcsRel (rel : Byte) : Statement (.aBcsRel rel) := ⟨rfl, rfl⟩
theorem aBccI : Statement (.aBccI) := ⟨rfl, rfl⟩
theorem aBccRel (rel : Byte) : Statement (.aBccRel rel) := ⟨rfl, rfl⟩
theorem aBnsI : Statement (.aBnsI) := ⟨rfl, rfl⟩
theorem aBnsRel (rel : Byte) : Statement (.aBnsRel rel) := ⟨rfl, rfl⟩
theorem aBncI : Statement (.aBncI) := ⟨rfl, rfl⟩
theorem aBncRel (rel : Byte) : Statement (.aBncRel rel) := ⟨rfl, rfl⟩
theorem aBzsI : Statement (.aBzsI) := ⟨rfl, rfl⟩
theorem aBzsRel (rel : Byte) : Statement (.aBzsRel rel) := ⟨rfl, rfl⟩
theorem aBzcI : Statement (.aBzcI) := ⟨rfl, rfl⟩
theorem aBzcRel (rel : Byte) : Statement (.aBzcRel rel) := ⟨rfl, rfl⟩

end Sys2Proof.Laws.EncodedLength
end

