-- ==== Sys2Proof/Laws/Run.lean ====
section
/-! SUPPORT. What one step of the machine is, in its three cases, and runs of the machine as the host defines them, one
step at a time. -/

namespace Sys2Proof.Machine

/-- Outside a run the step is the host's. -/
theorem step_outside_run {s : State} (h : s.runActive = false) : step s = .next (hostStep s) := by
  unfold step machineStep
  rw [h]
  rfl

/-- In a run with a display call of the host to make, the step is that call. -/
theorem step_hostCall {s : State} {move : DisplayMove} {moves : List DisplayMove} (h : s.runActive = true)
    (hm : s.sample.displayMoves = move :: moves) : step s = .next (s.hostCall move moves) := by
  unfold step machineStep runStep
  rw [h, hm]
  rfl

/-- In a run with no display call to make, the step is the cycle. -/
theorem step_cycle {s : State} (h : s.cycleDue) : step s = cycle s := by
  unfold step machineStep runStep
  rw [h.1, h.2]
  rfl

/-- A display call of the host in a run replaces the display and the samples to come and nothing else. -/
theorem frame_hostCall (s : State) (move : DisplayMove) (moves : List DisplayMove) :
    Frame [.disp, .inputs, .draws] s (s.hostCall move moves) :=
  (frame_displayMove s move).trans (frame_keepMoves _ moves)

/-- After it the next sample is as before but for the call just made. -/
theorem hostCall_sample (s : State) (move : DisplayMove) (moves : List DisplayMove) :
    (s.hostCall move moves).sample = { s.sample with displayMoves := moves } := rfl

theorem core_run_next {k : Nat} {s u : State} (h : step s = .next u) :
    Sys2Proof.core.run (k + 1) s = Sys2Proof.core.run k u := by
  have e : ∀ (M : Host.Core) (a b : M.State), M.step a = .next b → M.run (k + 1) a = M.run k b := by
    intro M a b hab
    rw [Host.Core.run.eq_def]
    simp only [hab]
  exact e Sys2Proof.core s u h

end Sys2Proof.Machine
end

