-- ==== Sys2Proof/Tests/Slice0.lean ====
section
/-! SUPPORT. Small tests, each of one step, whose expected results are the spec's own (95_test_vectors.md, by the ids in
the comments), and for each statement with hypotheses a state and operands that meet them. -/

namespace Sys2Proof.Tests

open Sys2Proof.Machine

/-! ### Helpers -/

/-- No tick, no key, no display call. -/
def quiet : Input := ⟨0, [], none, []⟩

/-- Reset, Variant B, in a run, `bytes` in memory at `addr` and `pc` there. -/
def atB (addr : Word) (bytes : List Byte) : State :=
  { State.reset with pc := addr, running := true, inputs := [quiet] }.writeFetchBytes addr.toNat bytes

/-- The same in Variant A. -/
def atA (addr : Word) (bytes : List Byte) : State :=
  (atB addr bytes).setVariant .a

/-- The same state with another sample to come. -/
def given (s : State) (input : Input) : State :=
  s.setInputs [input] 0

/-- The same state with one stack slot set and `sp` at it. -/
def stacked (s : State) (k : BitVec 8) (v : Word) : State :=
  s.setStack k (s.stack.set k.toNat v k.isLt)

/-- The same state with cells toggled on. -/
def lit (s : State) (cells : List (Nat × Nat)) : State :=
  cells.foldl (fun t c => t.displayMove (.setPixel c.1 c.2)) s

/-- What `g` reads in the state one step later, none at a stop. -/
def after {α : Type} (s : State) (g : State → α) : Option α :=
  match step s with
  | .next t => some (g t)
  | .fault _ => none
  | .refused _ => none

/-- The whole string as one instruction, none if it is not one. -/
def reads (v : Variant) (bytes : List Byte) : Option Instr :=
  match decode v bytes with
  | .ok (i, []) => some i
  | .ok (_, _ :: _) => none
  | .error _ => none

theorem next_of_after {s : State} (h : (after s fun t => t.draws).isSome = true) : ∃ t, step s = .next t := by
  unfold after at h
  split at h
  · exact ⟨_, ‹_›⟩
  · cases h
  · cases h

/-! ### Well-formed instructions -/

/-- An instruction of one variant's table is none of the other's. -/
theorem test_wellFormed :
    (Instr.bJp 0x1234).wellFormed .b = true ∧ (Instr.bJp 0x1234).wellFormed .a = false ∧
    Instr.aTax.wellFormed .a = true ∧ Instr.aTax.wellFormed .b = false := by decide

/-! ### Decoding: a word of every row, written out from R104 and R105 -/

theorem test_decode_40_b_control :
    reads .b [0x10, 0x12, 0xB4] = some (.bJp 0x12B4) ∧
    reads .b [0x20, 0x12, 0xB4] = some (.bCall 0x12B4) ∧
    reads .b [0xAA] = some .bExit ∧
    reads .b [0xB0, 0x12, 0xB4] = some (.bJpRx 0x12B4) ∧
    reads .b [0xEE] = some .bRet := by decide

theorem test_decode_41_b_skip :
    reads .b [0x30, 0x9C] = some (.bSeRxImm 0x9C) ∧
    reads .b [0x31, 0x9C] = some (.bSeRyImm 0x9C) ∧
    reads .b [0x40, 0x9C] = some (.bSneRxImm 0x9C) ∧
    reads .b [0x41, 0x9C] = some (.bSneRyImm 0x9C) ∧
    reads .b [0x50] = some .bSeRxRy ∧
    reads .b [0x90] = some .bSneRxRy ∧
    reads .b [0xE9] = some .bSkp ∧
    reads .b [0xEA] = some .bSknp := by decide

theorem test_decode_42_b_load_alu :
    reads .b [0x60, 0x9C] = some (.bLdRxImm 0x9C) ∧
    reads .b [0x61, 0x9C] = some (.bLdRyImm 0x9C) ∧
    reads .b [0x70, 0x9C] = some (.bAddRxImm 0x9C) ∧
    reads .b [0x71, 0x9C] = some (.bAddRyImm 0x9C) ∧
    reads .b [0x80] = some .bLdRxRy ∧
    reads .b [0x81] = some .bOr ∧
    reads .b [0x82] = some .bAnd ∧
    reads .b [0x83] = some .bXor ∧
    reads .b [0x84] = some .bAddRxRy ∧
    reads .b [0x85] = some .bSub ∧
    reads .b [0x86] = some .bShr ∧
    reads .b [0x87] = some .bSubn ∧
    reads .b [0x88] = some .bLdRyRx ∧
    reads .b [0x89] = some .bLdRxF ∧
    reads .b [0x8E] = some .bShl := by decide

theorem test_decode_43_b_index_memory :
    reads .b [0xA0, 0x12, 0xB4] = some (.bLdI 0x12B4) ∧
    reads .b [0xF0] = some .bLdMemRx ∧
    reads .b [0xF1] = some .bLdMemRy ∧
    reads .b [0xF2] = some .bLdRxMem ∧
    reads .b [0xF3] = some .bBcd ∧
    reads .b [0xF4] = some .bLdRyMem ∧
    reads .b [0xFE] = some .bAddIRx := by decide

theorem test_decode_45_b_display :
    reads .b [0xD0, 0x9C] = some (.bDrw 0x9C) ∧
    reads .b [0xE0] = some .bCls := by decide

theorem test_decode_44_b_timer_key :
    reads .b [0xF5] = some .bLdDtRx ∧
    reads .b [0xF7] = some .bLdRxDt ∧
    reads .b [0xF8] = some .bLdStRx ∧
    reads .b [0xFA] = some .bLdRxK := by decide

theorem test_decode_46_a_load_store_transfer :
    reads .a [0x00] = some .aInt ∧
    reads .a [0x01] = some .aHlt ∧
    reads .a [0x02] = some .aNop ∧
    reads .a [0x03, 0x12, 0xB4] = some (.aLdaImm 0x12B4) ∧
    reads .a [0x04, 0x12, 0xB4] = some (.aLdxImm 0x12B4) ∧
    reads .a [0x05, 0x12, 0xB4] = some (.aLdyImm 0x12B4) ∧
    reads .a [0x06, 0x12, 0xB4] = some (.aLdiImm 0x12B4) ∧
    reads .a [0x07] = some .aLdaMem ∧
    reads .a [0x08] = some .aLdxMem ∧
    reads .a [0x09] = some .aLdyMem ∧
    reads .a [0x0A] = some .aStaMem ∧
    reads .a [0x0B] = some .aStxMem ∧
    reads .a [0x0C] = some .aStyMem ∧
    reads .a [0x10] = some .aTax ∧
    reads .a [0x11] = some .aTay ∧
    reads .a [0x12] = some .aTai := by decide

theorem test_decode_46_a_load_store_transfer2 :
    reads .a [0x13] = some .aTxa ∧
    reads .a [0x14] = some .aTxy ∧
    reads .a [0x15] = some .aTxi ∧
    reads .a [0x16] = some .aTya ∧
    reads .a [0x17] = some .aTyx ∧
    reads .a [0x18] = some .aTyi ∧
    reads .a [0x19] = some .aTia ∧
    reads .a [0x1A] = some .aTix ∧
    reads .a [0x1B] = some .aTiy := by decide

theorem test_decode_47_a_control_branch :
    reads .a [0x20, 0x12, 0xB4] = some (.aJmp 0x12B4) ∧
    reads .a [0x21] = some .aJmpI ∧
    reads .a [0x22, 0x12, 0xB4] = some (.aCall 0x12B4) ∧
    reads .a [0x23] = some .aCallI ∧
    reads .a [0x24] = some .aRet ∧
    reads .a [0x50] = some .aBcsI ∧
    reads .a [0x51, 0x9C] = some (.aBcsRel 0x9C) ∧
    reads .a [0x52] = some .aBccI ∧
    reads .a [0x53, 0x9C] = some (.aBccRel 0x9C) ∧
    reads .a [0x54] = some .aBnsI ∧
    reads .a [0x55, 0x9C] = some (.aBnsRel 0x9C) ∧
    reads .a [0x56] = some .aBncI ∧
    reads .a [0x57, 0x9C] = some (.aBncRel 0x9C) ∧
    reads .a [0x58] = some .aBzsI ∧
    reads .a [0x59, 0x9C] = some (.aBzsRel 0x9C) ∧
    reads .a [0x5A] = some .aBzcI := by decide

theorem test_decode_47_a_control_branch2 :
    reads .a [0x5B, 0x9C] = some (.aBzcRel 0x9C) := by decide

theorem test_decode_48_a_alu :
    reads .a [0x30, 0x12, 0xB4] = some (.aAndImm 0x12B4) ∧
    reads .a [0x31] = some .aAndMem ∧
    reads .a [0x32] = some .aAndX ∧
    reads .a [0x33] = some .aAndY ∧
    reads .a [0x34, 0x12, 0xB4] = some (.aOrImm 0x12B4) ∧
    reads .a [0x35] = some .aOrMem ∧
    reads .a [0x36] = some .aOrX ∧
    reads .a [0x37] = some .aOrY ∧
    reads .a [0x38, 0x12, 0xB4] = some (.aXorImm 0x12B4) ∧
    reads .a [0x39] = some .aXorMem ∧
    reads .a [0x3A] = some .aXorX ∧
    reads .a [0x3B] = some .aXorY ∧
    reads .a [0x40, 0x12, 0xB4] = some (.aAddImm 0x12B4) ∧
    reads .a [0x41] = some .aAddMem ∧
    reads .a [0x42] = some .aAddX ∧
    reads .a [0x43] = some .aAddY := by decide

theorem test_decode_48_a_alu2 :
    reads .a [0x44, 0x12, 0xB4] = some (.aSubImm 0x12B4) ∧
    reads .a [0x45] = some .aSubMem ∧
    reads .a [0x46] = some .aSubX ∧
    reads .a [0x47] = some .aSubY ∧
    reads .a [0x48, 0x12, 0xB4] = some (.aCmpImm 0x12B4) ∧
    reads .a [0x49] = some .aCmpMem ∧
    reads .a [0x4A] = some .aCmpX ∧
    reads .a [0x4B] = some .aCmpY ∧
    reads .a [0x4C] = some .aShl ∧
    reads .a [0x4D] = some .aShr ∧
    reads .a [0x4E] = some .aRol ∧
    reads .a [0x4F] = some .aRor := by decide

/-- Reserved bytes are refused, in each variant, and a string that is cut short is no instruction. -/
theorem test_decode_refused :
    reads .b [0x00] = none ∧ reads .b [0x11] = none ∧ reads .b [0xC0] = none ∧ reads .b [0xFF] = none ∧
    reads .a [0x0D] = none ∧ reads .a [0x5C] = none ∧ reads .a [0xAA] = none ∧ reads .a [0xE0] = none ∧
    reads .b [0x10, 0x12] = none ∧ reads .a [0x51] = none ∧ reads .b [] = none := by decide

/-- 2.13: `Len(op)`. -/
theorem test_lengths :
    [0x10, 0xA0, 0x30, 0xD0, 0x84, 0xAA, 0x11, 0x00].map (lenOf .b) = [3, 3, 2, 2, 1, 1, 1, 1] ∧
    [0x03, 0x22, 0x48, 0x51, 0x5B, 0x50, 0x4C, 0x5C].map (lenOf .a) = [3, 3, 3, 2, 2, 1, 1, 1] := by decide

/-! ### Instructions -/

/-- VJ1, R120 -/
theorem test_bJp_VJ1 :
    after (atB 0x0010 [0x10, 0x12, 0x34]) (fun t => t.pc) =
      some 0x1234 := by decide

/-- VJ2, R120 -/
theorem test_bJp_VJ2 :
    after (atB 0xFFFE [0x10, 0x12]) (fun t => t.pc) =
      some 0x0000 := by decide

/-- VJ3, R121 -/
theorem test_bCall_VJ3 :
    after (atB 0x0005 [0x20, 0x00, 0x20]) (fun t => (t.pc, t.sp, t.slot 1)) =
      some (0x0020, 1, 0x0008) := by decide

/-- VJ4, R121 -/
theorem test_bCall_VJ4 :
    after ((atB 0x0005 [0x20, 0x00, 0x20]).setStack 255 State.reset.stack) (fun t => (t.pc, t.sp, t.slot 0)) =
      some (0x0020, 0, 0x0008) := by decide

/-- VJ6, R122 -/
theorem test_bJpRx_VJ6 :
    after ((atB 0x0000 [0xB0, 0xFF, 0xFF]).setRx 0xFF) (fun t => t.pc) =
      some 0x00FE := by decide

/-- VJ7, R123 -/
theorem test_bExit_VJ7 :
    after (atB 0x0004 [0xAA]) (fun t => (t.pc, t.running)) =
      some (0x0005, false) := by decide

/-- VJ8, R124 -/
theorem test_bRet_VJ8 :
    after (stacked (atB 0x0030 [0xEE]) 1 0x0008) (fun t => (t.pc, t.sp)) =
      some (0x0008, 0) := by decide

/-- VJ9, R124 -/
theorem test_bRet_VJ9 :
    after (atB 0x0030 [0xEE]) (fun t => (t.pc, t.sp)) =
      some (0x0000, 255) := by decide

/-- VQ2, R131 -/
theorem test_bSeRxImm_VQ2 :
    after ((atB 0x0010 [0x30, 0x05, 0x10, 0x00, 0x06]).setRx 0x04) (fun t => t.pc) =
      some 0x0012 := by decide

/-- VQ17, R130 -/
theorem test_bSeRxImm_VQ17 :
    after ((atB 0xFFFC [0x30, 0x00, 0x10]).setRx 0x00) (fun t => t.pc) =
      some 0x0001 := by decide

/-- VQ3, R132 -/
theorem test_bSeRyImm_VQ3 :
    after ((atB 0x0010 [0x31, 0x00, 0xAA]).setRy 0x00) (fun t => t.pc) =
      some 0x0013 := by decide

/-- VQ4, R133 -/
theorem test_bSneRxImm_VQ4 :
    after ((atB 0x0010 [0x40, 0x00, 0x60, 0x07]).setRx 0x01) (fun t => t.pc) =
      some 0x0014 := by decide

/-- VQ5, R133 -/
theorem test_bSneRxImm_VQ5 :
    after ((atB 0x0010 [0x40, 0x00, 0x60, 0x07]).setRx 0x00) (fun t => t.pc) =
      some 0x0012 := by decide

/-- VQ6, R134 -/
theorem test_bSneRyImm_VQ6 :
    after ((atB 0x0009 [0x41, 0x00, 0xAA]).setRy 0x04) (fun t => t.pc) =
      some 0x000C := by decide

/-- VQ7, R134 -/
theorem test_bSneRyImm_VQ7 :
    after ((atB 0x0009 [0x41, 0x00, 0xAA]).setRy 0x00) (fun t => t.pc) =
      some 0x000B := by decide

/-- VQ8, R135 -/
theorem test_bSeRxRy_VQ8 :
    after (((atB 0x0010 [0x50, 0x60, 0x01]).setRx 0x7F).setRy 0x7F) (fun t => t.pc) =
      some 0x0013 := by decide

/-- VQ9, R135 -/
theorem test_bSeRxRy_VQ9 :
    after (((atB 0x0010 [0x50, 0x60, 0x01]).setRx 0x7F).setRy 0x7E) (fun t => t.pc) =
      some 0x0011 := by decide

/-- VQ10, R136 -/
theorem test_bSneRxRy_VQ10 :
    after (((atB 0x0010 [0x90, 0xAA]).setRx 0x01).setRy 0x02) (fun t => t.pc) =
      some 0x0012 := by decide

/-- VQ11, R136 -/
theorem test_bSneRxRy_VQ11 :
    after (((atB 0x0010 [0x90, 0xAA]).setRx 0x02).setRy 0x02) (fun t => t.pc) =
      some 0x0011 := by decide

/-- VQ12, R137 -/
theorem test_bSkp_VQ12 :
    after (given ((atB 0x0010 [0xE9, 0x10, 0x00, 0x20]).setRx 0x05) ⟨0, [0x05], none, []⟩) (fun t => t.pc) =
      some 0x0014 := by decide

/-- VQ13, R137 -/
theorem test_bSkp_VQ13 :
    after ((atB 0x0010 [0xE9, 0x10, 0x00, 0x20]).setRx 0x05) (fun t => t.pc) =
      some 0x0011 := by decide

/-- VQ14, R138 -/
theorem test_bSknp_VQ14 :
    after ((atB 0x0010 [0xEA, 0xAA]).setRx 0x05) (fun t => t.pc) =
      some 0x0012 := by decide

/-- VQ15, R138 -/
theorem test_bSknp_VQ15 :
    after (given ((atB 0x0010 [0xEA, 0xAA]).setRx 0x05) ⟨0, [0x05], none, []⟩) (fun t => t.pc) =
      some 0x0011 := by decide

/-- VA1, R145 -/
theorem test_bLdRxImm_VA1 :
    after ((atB 0x0010 [0x60, 0xEA]).setF 0x01) (fun t => (t.rx, t.f, t.pc)) =
      some (0xEA, 0x01, 0x0012) := by decide

/-- VA2, R146 -/
theorem test_bLdRyImm_VA2 :
    after ((atB 0x0010 [0x61, 0x05]).setF 0x01) (fun t => (t.ry, t.f, t.pc)) =
      some (0x05, 0x01, 0x0012) := by decide

/-- VA3, R147 -/
theorem test_bAddRxImm_VA3 :
    after ((atB 0x0010 [0x70, 0x20]).setRx 0xF0) (fun t => (t.rx, t.f, t.pc)) =
      some (0x10, 0x01, 0x0012) := by decide

/-- VA5, R147 -/
theorem test_bAddRxImm_VA5 :
    after (((atB 0x0010 [0x70, 0xFF]).setRx 0x00).setF 0x01) (fun t => (t.rx, t.f, t.pc)) =
      some (0xFF, 0x00, 0x0012) := by decide

/-- VA8, R148 -/
theorem test_bAddRyImm_VA8 :
    after ((atB 0x0010 [0x71, 0xFF]).setRy 0x01) (fun t => (t.ry, t.f, t.pc)) =
      some (0x00, 0x01, 0x0012) := by decide

/-- VA9, R148 -/
theorem test_bAddRyImm_VA9 :
    after (((atB 0x0010 [0x71, 0xFF]).setRy 0x00).setF 0x01) (fun t => (t.ry, t.f, t.pc)) =
      some (0xFF, 0x00, 0x0012) := by decide

/-- VA10, R149 -/
theorem test_bLdRxRy_VA10 :
    after (((atB 0x0010 [0x80]).setRy 0x3C).setF 0x01) (fun t => (t.rx, t.f, t.pc)) =
      some (0x3C, 0x01, 0x0011) := by decide

/-- VA11, R150 -/
theorem test_bOr_VA11 :
    after ((((atB 0x0010 [0x81]).setRx 0xF0).setRy 0x0F).setF 0x01) (fun t => (t.rx, t.f, t.pc)) =
      some (0xFF, 0x01, 0x0011) := by decide

/-- VA12, R151 -/
theorem test_bAnd_VA12 :
    after (((atB 0x0010 [0x82]).setRx 0xF3).setRy 0x3F) (fun t => (t.rx, t.f, t.pc)) =
      some (0x33, 0x00, 0x0011) := by decide

/-- VA14, R152 -/
theorem test_bXor_VA14 :
    after ((((atB 0x0010 [0x83]).setRx 0x5A).setRy 0x5A).setF 0x01) (fun t => (t.rx, t.f, t.pc)) =
      some (0x00, 0x01, 0x0011) := by decide

/-- VA15, R153 -/
theorem test_bAddRxRy_VA15 :
    after (((atB 0x0010 [0x84]).setRx 0xC8).setRy 0x64) (fun t => (t.rx, t.f, t.pc)) =
      some (0x2C, 0x01, 0x0011) := by decide

/-- VA18, R153 -/
theorem test_bAddRxRy_VA18 :
    after ((((atB 0x0010 [0x84]).setRx 0x7F).setRy 0x01).setF 0x01) (fun t => (t.rx, t.f, t.pc)) =
      some (0x80, 0x00, 0x0011) := by decide

/-- VA20, R154 -/
theorem test_bSub_VA20 :
    after (((atB 0x0010 [0x85]).setRx 0x10).setRy 0x20) (fun t => (t.rx, t.f, t.pc)) =
      some (0xF0, 0x01, 0x0011) := by decide

/-- VA22, R154 -/
theorem test_bSub_VA22 :
    after ((((atB 0x0010 [0x85]).setRx 0x33).setRy 0x33).setF 0x01) (fun t => (t.rx, t.f, t.pc)) =
      some (0x00, 0x00, 0x0011) := by decide

/-- VA24, R155 -/
theorem test_bShr_VA24 :
    after ((atB 0x0010 [0x86]).setRx 0x05) (fun t => (t.rx, t.f, t.pc)) =
      some (0x02, 0x01, 0x0011) := by decide

/-- VA27, R155 -/
theorem test_bShr_VA27 :
    after ((((atB 0x0010 [0x86]).setRx 0x80).setRy 0xFF).setF 0x01) (fun t => (t.rx, t.f, t.pc)) =
      some (0x40, 0x00, 0x0011) := by decide

/-- VA28, R156 -/
theorem test_bSubn_VA28 :
    after (((atB 0x0010 [0x87]).setRx 0x20).setRy 0x10) (fun t => (t.rx, t.f, t.pc)) =
      some (0xF0, 0x01, 0x0011) := by decide

/-- VA29, R156 -/
theorem test_bSubn_VA29 :
    after ((((atB 0x0010 [0x87]).setRx 0x10).setRy 0x20).setF 0x01) (fun t => (t.f, t.pc)) =
      some (0x00, 0x0011) := by decide

/-- VA31, R157 -/
theorem test_bLdRyRx_VA31 :
    after (((atB 0x0010 [0x88]).setRx 0x07).setF 0x01) (fun t => (t.ry, t.f, t.pc)) =
      some (0x07, 0x01, 0x0011) := by decide

/-- VA32, R158 -/
theorem test_bLdRxF_VA32 :
    after (((atB 0x0010 [0x89]).setRx 0x55).setF 0x01) (fun t => (t.rx, t.f, t.pc)) =
      some (0x01, 0x01, 0x0011) := by decide

/-- VA34, R159 -/
theorem test_bShl_VA34 :
    after ((atB 0x0010 [0x8E]).setRx 0xC1) (fun t => (t.rx, t.f, t.pc)) =
      some (0x82, 0x01, 0x0011) := by decide

/-- VA36, R159 -/
theorem test_bShl_VA36 :
    after (((atB 0x0010 [0x8E]).setRx 0x40).setF 0x01) (fun t => (t.rx, t.f, t.pc)) =
      some (0x80, 0x00, 0x0011) := by decide

/-- VI1, R170 -/
theorem test_bLdI_VI1 :
    after (atB 0x0010 [0xA0, 0x01, 0x00]) (fun t => (t.i, t.pc)) =
      some (0x0100, 0x0013) := by decide

/-- VI2, R170 -/
theorem test_bLdI_VI2 :
    after (atB 0xFFFE [0xA0, 0x12]) (fun t => t.pc) =
      some 0x0001 := by decide

/-- VI3, R171 -/
theorem test_bAddIRx_VI3 :
    after ((((atB 0x0010 [0xFE]).setI 0x0100).setRx 0x01).setF 0x01) (fun t => (t.i, t.pc, t.f)) =
      some (0x0101, 0x0011, 0x01) := by decide

/-- VI4, R171 -/
theorem test_bAddIRx_VI4 :
    after (((atB 0x0010 [0xFE]).setI 0xFFFF).setRx 0x02) (fun t => (t.i, t.pc)) =
      some (0x0001, 0x0011) := by decide

/-- VI7, R172 -/
theorem test_bLdMemRx_VI7 :
    after (((atB 0x0010 [0xF0, 0x60, 0x00]).setI 0x0011).setRx 0xAA) (fun t => (t.pc, t.read8 0x0011)) =
      some (0x0011, 0xAA) := by decide

/-- VI6, R173 -/
theorem test_bLdMemRy_VI6 :
    after (((atB 0x0010 [0xF1]).setI 0xFFFF).setRy 0x01) (fun t => (t.pc, t.read8 0xFFFF)) =
      some (0x0011, 0x01) := by decide

/-- VI10, R174 -/
theorem test_bLdRxMem_VI10 :
    after (((atB 0x0010 [0xF2]).setI 0x0010).setRx 0x00) (fun t => (t.rx, t.pc)) =
      some (0xF2, 0x0011) := by decide

/-- VI9, R175 -/
theorem test_bLdRyMem_VI9 :
    after (((atB 0x0010 [0xF4]).setI 0x0101).write8 0x0101 0x03) (fun t => (t.ry, t.pc)) =
      some (0x03, 0x0011) := by decide

/-- VI11, R177 -/
theorem test_bBcd_VI11 :
    after (((atB 0x0010 [0xF3]).setI 0x0100).setRx 0xEA) (fun t => (t.pc, t.read8 0x0100, t.read8 0x0101, t.read8 0x0102)) =
      some (0x0011, 0x02, 0x03, 0x04) := by decide

/-- VI16, R177 -/
theorem test_bBcd_VI16 :
    after (((atB 0x0010 [0xF3]).setI 0xFFFF).setRx 0x7B) (fun t => (t.pc, t.read8 0x0000, t.read8 0x0001, t.read8 0xFFFF)) =
      some (0x0011, 0x02, 0x03, 0x01) := by decide

/-- VT1, R186 -/
theorem test_bLdRxDt_VT1 :
    after (given ((atB 0x0010 [0xF7]).setDt 0x03) ⟨1, [], none, []⟩) (fun t => (t.rx, t.dt, t.pc)) =
      some (0x02, 0x02, 0x0011) := by decide

/-- VT4, R187 -/
theorem test_bLdDtRx_VT4 :
    after (given ((atB 0x0010 [0xF5]).setRx 0x3C) ⟨5, [], none, []⟩) (fun t => (t.dt, t.pc)) =
      some (0x3C, 0x0011) := by decide

/-- VT5, R188 -/
theorem test_bLdStRx_VT5 :
    after (given (((atB 0x0010 [0xF8]).setRx 0x02).setDt 0x09) ⟨1, [], none, []⟩) (fun t => (t.dt, t.st, t.pc)) =
      some (0x08, 0x02, 0x0011) := by decide

/-- VT9, R189 -/
theorem test_bLdRxK_VT9 :
    after (given (((atB 0x0010 [0xFA]).setRx 0x09).setDt 0x04) ⟨1, [], some 0xFF, []⟩) (fun t => (t.rx, t.dt, t.pc)) =
      some (0xFF, 0x03, 0x0011) := by decide

/-- VD1, R195 -/
theorem test_bCls_VD1 :
    after (lit ((atB 0x0010 [0xE0]).setF 0x01) [(3, 4), (63, 31)]) (fun t => (t.f, t.pc, t.cell 3 4, t.cell 63 31)) =
      some (0x01, 0x0011, 0x00, 0x00) := by decide

/-- VD4, R196 -/
theorem test_bDrw_VD4 :
    after (lit (((atB 0x0010 [0xD0, 0x01]).setI 0x0020).write8 0x0020 0xC0) [(0, 0)]) (fun t => (t.f, t.pc, t.cell 1 0, t.cell 0 0)) =
      some (0x00, 0x0012, 0x01, 0x00) := by decide

/-- VD6, R196 -/
theorem test_bDrw_VD6 :
    after ((((((atB 0x0010 [0xD0, 0x02]).setI 0x0020).setRx 0x3E).setRy 0x1F).write8 0x0020 0xFF).write8 0x0021 0xFF) (fun t => (t.f, t.pc, t.cell 62 31, t.cell 63 31, t.cell 61 31, t.cell 0 31, t.cell 62 30)) =
      some (0x00, 0x0012, 0x01, 0x01, 0x00, 0x00, 0x00) := by decide

/-- VL1, R200 -/
theorem test_aInt_VL1 :
    after (((atA 0x0010 [0x00]).setC true).setN true) (fun t => (t.pc, t.diags)) =
      some (0x0011, [⟨.unimplemented, 0x00, 0x0010⟩]) := by decide

/-- VL2, R201 -/
theorem test_aHlt_VL2 :
    after (atA 0x0010 [0x01]) (fun t => (t.pc, t.running)) =
      some (0x0011, false) := by decide

/-- VL3, R202 -/
theorem test_aNop_VL3 :
    after (((atA 0x0010 [0x02]).setA 0x0005).setZ true) (fun t => t.pc) =
      some 0x0011 := by decide

/-- VL4, R203 -/
theorem test_aLdaImm_VL4 :
    after (((atA 0x0010 [0x03, 0x80, 0x00]).setN false).setZ true) (fun t => (t.a, t.pc, t.n, t.z)) =
      some (0x8000, 0x0013, false, true) := by decide

/-- VL8, R203 -/
theorem test_aLdaImm_VL8 :
    after ((atA 0xFFFE [0x03, 0x55]).setA 0x1111) (fun t => (t.a, t.pc)) =
      some (0x0000, 0x0001) := by decide

/-- VL5, R204 -/
theorem test_aLdxImm_VL5 :
    after (atA 0x0010 [0x04, 0x12, 0x34]) (fun t => (t.x, t.pc)) =
      some (0x1234, 0x0013) := by decide

/-- VL6, R205 -/
theorem test_aLdyImm_VL6 :
    after (atA 0x0010 [0x05, 0xFF, 0xFF]) (fun t => (t.y, t.pc)) =
      some (0xFFFF, 0x0013) := by decide

/-- VL7, R206 -/
theorem test_aLdiImm_VL7 :
    after (atA 0x0010 [0x06, 0x01, 0x00]) (fun t => (t.i, t.pc)) =
      some (0x0100, 0x0013) := by decide

/-- VL12, R207 -/
theorem test_aLdaMem_VL12 :
    after ((((atA 0x0010 [0x07]).setI 0xFFFF).setA 0x1111).write8 0xFFFF 0x77) (fun t => (t.a, t.pc)) =
      some (0x0000, 0x0011) := by decide

/-- VL13, R207 -/
theorem test_aLdaMem_VL13 :
    after ((((atA 0x0010 [0x07]).setI 0xFFFE).write8 0xFFFE 0xAB).write8 0xFFFF 0xCD) (fun t => (t.a, t.pc)) =
      some (0xABCD, 0x0011) := by decide

/-- VL10, R208 -/
theorem test_aLdxMem_VL10 :
    after ((((atA 0x0010 [0x08]).setI 0x0100).write8 0x0100 0x12).write8 0x0101 0x34) (fun t => (t.x, t.pc)) =
      some (0x1234, 0x0011) := by decide

/-- VL11, R209 -/
theorem test_aLdyMem_VL11 :
    after ((((atA 0x0010 [0x09]).setI 0x0100).write8 0x0100 0x12).write8 0x0101 0x34) (fun t => (t.y, t.pc)) =
      some (0x1234, 0x0011) := by decide

/-- VL14, R210 -/
theorem test_aStaMem_VL14 :
    after (((atA 0x0010 [0x0A]).setI 0x0100).setA 0xBEEF) (fun t => (t.pc, t.read8 0x0100, t.read8 0x0101)) =
      some (0x0011, 0xBE, 0xEF) := by decide

/-- VL17, R210 -/
theorem test_aStaMem_VL17 :
    after (((atA 0x0010 [0x0A]).setI 0xFFFF).setA 0xBEEF) (fun t => (t.pc, t.read8 0xFFFF, t.read8 0x0000)) =
      some (0x0011, 0x00, 0x00) := by decide

/-- VL15, R211 -/
theorem test_aStxMem_VL15 :
    after (((atA 0x0010 [0x0B]).setI 0x0100).setX 0x0102) (fun t => (t.pc, t.read8 0x0100, t.read8 0x0101)) =
      some (0x0011, 0x01, 0x02) := by decide

/-- VL16, R212 -/
theorem test_aStyMem_VL16 :
    after (((atA 0x0010 [0x0C]).setI 0x0100).setY 0x00FF) (fun t => (t.pc, t.read8 0x0101, t.read8 0x0100)) =
      some (0x0011, 0xFF, 0x00) := by decide

/-- VL19, R213 -/
theorem test_aTax_VL19 :
    after ((((((((atA 0x0010 [0x10]).setA 0xAAAA).setX 0x1111).setY 0x2222).setI 0x3333).setC true).setN true).setZ true) (fun t => (t.x, t.pc, t.n, t.z)) =
      some (0xAAAA, 0x0011, true, true) := by decide

/-- VL20, R214 -/
theorem test_aTay_VL20 :
    after ((((((((atA 0x0010 [0x11]).setA 0xAAAA).setX 0x1111).setY 0x2222).setI 0x3333).setC true).setN true).setZ true) (fun t => (t.y, t.pc)) =
      some (0xAAAA, 0x0011) := by decide

/-- VL21, R215 -/
theorem test_aTai_VL21 :
    after ((((((((atA 0x0010 [0x12]).setA 0xAAAA).setX 0x1111).setY 0x2222).setI 0x3333).setC true).setN true).setZ true) (fun t => (t.i, t.pc)) =
      some (0xAAAA, 0x0011) := by decide

/-- VL22, R216 -/
theorem test_aTxa_VL22 :
    after ((((((((atA 0x0010 [0x13]).setA 0xAAAA).setX 0x1111).setY 0x2222).setI 0x3333).setC true).setN true).setZ true) (fun t => (t.a, t.pc)) =
      some (0x1111, 0x0011) := by decide

/-- VL23, R217 -/
theorem test_aTxy_VL23 :
    after ((((((((atA 0x0010 [0x14]).setA 0xAAAA).setX 0x1111).setY 0x2222).setI 0x3333).setC true).setN true).setZ true) (fun t => (t.y, t.pc)) =
      some (0x1111, 0x0011) := by decide

/-- VL24, R218 -/
theorem test_aTxi_VL24 :
    after ((((((((atA 0x0010 [0x15]).setA 0xAAAA).setX 0x1111).setY 0x2222).setI 0x3333).setC true).setN true).setZ true) (fun t => (t.i, t.pc)) =
      some (0x1111, 0x0011) := by decide

/-- VL25, R219 -/
theorem test_aTya_VL25 :
    after ((((((((atA 0x0010 [0x16]).setA 0xAAAA).setX 0x1111).setY 0x2222).setI 0x3333).setC true).setN true).setZ true) (fun t => (t.a, t.pc)) =
      some (0x2222, 0x0011) := by decide

/-- VL26, R220 -/
theorem test_aTyx_VL26 :
    after ((((((((atA 0x0010 [0x17]).setA 0xAAAA).setX 0x1111).setY 0x2222).setI 0x3333).setC true).setN true).setZ true) (fun t => (t.x, t.pc)) =
      some (0x2222, 0x0011) := by decide

/-- VL27, R221 -/
theorem test_aTyi_VL27 :
    after ((((((((atA 0x0010 [0x18]).setA 0xAAAA).setX 0x1111).setY 0x2222).setI 0x3333).setC true).setN true).setZ true) (fun t => (t.i, t.pc)) =
      some (0x2222, 0x0011) := by decide

/-- VL28, R222 -/
theorem test_aTia_VL28 :
    after ((((((((atA 0x0010 [0x19]).setA 0xAAAA).setX 0x1111).setY 0x2222).setI 0x3333).setC true).setN true).setZ true) (fun t => (t.a, t.pc)) =
      some (0x3333, 0x0011) := by decide

/-- VL29, R223 -/
theorem test_aTix_VL29 :
    after ((((((((atA 0x0010 [0x1A]).setA 0xAAAA).setX 0x1111).setY 0x2222).setI 0x3333).setC true).setN true).setZ true) (fun t => (t.x, t.pc)) =
      some (0x3333, 0x0011) := by decide

/-- VL30, R224 -/
theorem test_aTiy_VL30 :
    after ((((((((atA 0x0010 [0x1B]).setA 0xAAAA).setX 0x1111).setY 0x2222).setI 0x3333).setC true).setN true).setZ true) (fun t => (t.y, t.pc)) =
      some (0x3333, 0x0011) := by decide

/-- VB1, R240 -/
theorem test_aJmp_VB1 :
    after (atA 0x0010 [0x20, 0x00, 0x08]) (fun t => t.pc) =
      some 0x0008 := by decide

/-- VB2, R241 -/
theorem test_aJmpI_VB2 :
    after ((atA 0x0010 [0x21]).setI 0x0400) (fun t => t.pc) =
      some 0x0400 := by decide

/-- VB3, R242 -/
theorem test_aCall_VB3 :
    after (atA 0x0005 [0x22, 0x00, 0x20]) (fun t => (t.pc, t.sp, t.slot 1)) =
      some (0x0020, 1, 0x0008) := by decide

/-- VB7, R242 -/
theorem test_aCall_VB7 :
    after ((atA 0x0005 [0x22, 0x00, 0x20]).setStack 255 State.reset.stack) (fun t => (t.pc, t.sp, t.slot 0)) =
      some (0x0020, 0, 0x0008) := by decide

/-- VB4, R243 -/
theorem test_aCallI_VB4 :
    after ((atA 0x0010 [0x23]).setI 0x0400) (fun t => (t.pc, t.sp, t.slot 1)) =
      some (0x0400, 1, 0x0011) := by decide

/-- VB5, R244 -/
theorem test_aRet_VB5 :
    after (stacked (atA 0x0030 [0x24]) 1 0x0008) (fun t => (t.pc, t.sp)) =
      some (0x0008, 0) := by decide

/-- VB6, R244 -/
theorem test_aRet_VB6 :
    after (atA 0x0030 [0x24]) (fun t => (t.pc, t.sp)) =
      some (0x0000, 255) := by decide

/-- VB8, R246 -/
theorem test_aBcsI_VB8 :
    after (((atA 0x0010 [0x50]).setC true).setI 0x0300) (fun t => t.pc) =
      some 0x0300 := by decide

/-- VB9, R246 -/
theorem test_aBcsI_VB9 :
    after (((atA 0x0010 [0x50]).setC false).setI 0x0300) (fun t => t.pc) =
      some 0x0011 := by decide

/-- VB10, R247 -/
theorem test_aBcsRel_VB10 :
    after ((atA 0x0010 [0x51, 0x04]).setC true) (fun t => t.pc) =
      some 0x0016 := by decide

/-- VB11, R247 -/
theorem test_aBcsRel_VB11 :
    after ((atA 0x0010 [0x51, 0x04]).setC false) (fun t => t.pc) =
      some 0x0012 := by decide

/-- VB12, R248 -/
theorem test_aBccI_VB12 :
    after (((atA 0x0010 [0x52]).setC false).setI 0x0300) (fun t => t.pc) =
      some 0x0300 := by decide

/-- VB13, R249 -/
theorem test_aBccRel_VB13 :
    after ((atA 0x0010 [0x53, 0xFC]).setC false) (fun t => t.pc) =
      some 0x000E := by decide

/-- VB14, R249 -/
theorem test_aBccRel_VB14 :
    after ((atA 0x0010 [0x53, 0xFC]).setC true) (fun t => t.pc) =
      some 0x0012 := by decide

/-- VB15, R250 -/
theorem test_aBnsI_VB15 :
    after (((atA 0x0010 [0x54]).setN true).setI 0x0300) (fun t => t.pc) =
      some 0x0300 := by decide

/-- VB16, R251 -/
theorem test_aBnsRel_VB16 :
    after ((atA 0x0020 [0x55, 0x7F]).setN true) (fun t => t.pc) =
      some 0x00A1 := by decide

/-- VB17, R252 -/
theorem test_aBncI_VB17 :
    after (((atA 0x0010 [0x56]).setN false).setI 0x0300) (fun t => t.pc) =
      some 0x0300 := by decide

/-- VB18, R253 -/
theorem test_aBncRel_VB18 :
    after ((atA 0x0020 [0x57, 0x80]).setN false) (fun t => t.pc) =
      some 0xFFA2 := by decide

/-- VB19, R253 -/
theorem test_aBncRel_VB19 :
    after ((atA 0x0020 [0x57, 0x80]).setN true) (fun t => t.pc) =
      some 0x0022 := by decide

/-- VB20, R254 -/
theorem test_aBzsI_VB20 :
    after (((atA 0x0010 [0x58]).setZ true).setI 0x0300) (fun t => t.pc) =
      some 0x0300 := by decide

/-- VB21, R255 -/
theorem test_aBzsRel_VB21 :
    after ((atA 0x000E [0x59, 0x01]).setZ true) (fun t => t.pc) =
      some 0x0011 := by decide

/-- VB22, R256 -/
theorem test_aBzcI_VB22 :
    after (((atA 0x0010 [0x5A]).setZ false).setI 0x0300) (fun t => t.pc) =
      some 0x0300 := by decide

/-- VB23, R257 -/
theorem test_aBzcRel_VB23 :
    after ((atA 0x0010 [0x5B, 0xF7]).setZ false) (fun t => t.pc) =
      some 0x0009 := by decide

/-- VB26, R257 -/
theorem test_aBzcRel_VB26 :
    after ((atA 0xFFFE [0x5B, 0x7F]).setZ false) (fun t => t.pc) =
      some 0x007F := by decide

/-- VE1, R272 -/
theorem test_aAndImm_VE1 :
    after (((atA 0x0010 [0x30, 0x0F, 0xF0]).setA 0xF0F0).setC true) (fun t => (t.a, t.c, t.n, t.z, t.pc)) =
      some (0x00F0, true, false, false, 0x0013) := by decide

/-- VE2, R273 -/
theorem test_aAndMem_VE2 :
    after (((((atA 0x0010 [0x31]).setA 0xFFFF).setI 0x0100).write8 0x0100 0x80).write8 0x0101 0x01) (fun t => (t.a, t.c, t.n, t.z, t.pc)) =
      some (0x8001, false, true, false, 0x0011) := by decide

/-- VE3, R274 -/
theorem test_aAndX_VE3 :
    after (((atA 0x0010 [0x32]).setA 0x00FF).setX 0x0F0F) (fun t => (t.a, t.c, t.n, t.z, t.pc)) =
      some (0x000F, false, false, false, 0x0011) := by decide

/-- VE4, R275 -/
theorem test_aAndY_VE4 :
    after ((((atA 0x0010 [0x33]).setA 0xAAAA).setY 0x5555).setC true) (fun t => (t.a, t.c, t.n, t.z, t.pc)) =
      some (0x0000, true, false, true, 0x0011) := by decide

/-- VE6, R276 -/
theorem test_aOrImm_VE6 :
    after ((atA 0x0010 [0x34, 0x80, 0x00]).setA 0x0001) (fun t => (t.a, t.c, t.n, t.z, t.pc)) =
      some (0x8001, false, true, false, 0x0013) := by decide

/-- VE7, R277 -/
theorem test_aOrMem_VE7 :
    after (((atA 0x0010 [0x35]).setA 0x0000).setI 0x0000) (fun t => (t.a, t.c, t.n, t.z, t.pc)) =
      some (0x0000, false, false, true, 0x0011) := by decide

/-- VE8, R278 -/
theorem test_aOrX_VE8 :
    after (((atA 0x0010 [0x36]).setA 0x00F0).setX 0x000F) (fun t => (t.a, t.c, t.n, t.z, t.pc)) =
      some (0x00FF, false, false, false, 0x0011) := by decide

/-- VE9, R279 -/
theorem test_aOrY_VE9 :
    after ((((atA 0x0010 [0x37]).setA 0x1200).setY 0x0034).setC true) (fun t => (t.a, t.c, t.n, t.z, t.pc)) =
      some (0x1234, true, false, false, 0x0011) := by decide

/-- VE10, R280 -/
theorem test_aXorImm_VE10 :
    after ((atA 0x0010 [0x38, 0xFF, 0xFF]).setA 0x00FF) (fun t => (t.a, t.c, t.n, t.z, t.pc)) =
      some (0xFF00, false, true, false, 0x0013) := by decide

/-- VE11, R281 -/
theorem test_aXorMem_VE11 :
    after (((((atA 0x0010 [0x39]).setA 0x1234).setI 0x0100).write8 0x0100 0x12).write8 0x0101 0x34) (fun t => (t.a, t.c, t.n, t.z, t.pc)) =
      some (0x0000, false, false, true, 0x0011) := by decide

/-- VE12, R282 -/
theorem test_aXorX_VE12 :
    after (((atA 0x0010 [0x3A]).setA 0xFFFF).setX 0x7FFF) (fun t => (t.a, t.c, t.n, t.z, t.pc)) =
      some (0x8000, false, true, false, 0x0011) := by decide

/-- VE13, R283 -/
theorem test_aXorY_VE13 :
    after ((((atA 0x0010 [0x3B]).setA 0x0F0F).setY 0x00FF).setC true) (fun t => (t.a, t.c, t.n, t.z, t.pc)) =
      some (0x0FF0, true, false, false, 0x0011) := by decide

/-- VE14, R284 -/
theorem test_aAddImm_VE14 :
    after ((atA 0x0010 [0x40, 0x00, 0x01]).setA 0x7FFF) (fun t => (t.a, t.c, t.n, t.z, t.pc)) =
      some (0x8000, false, true, false, 0x0013) := by decide

/-- VE15, R284 -/
theorem test_aAddImm_VE15 :
    after ((atA 0x0010 [0x40, 0x00, 0x01]).setA 0xFFFF) (fun t => (t.a, t.c, t.n, t.z, t.pc)) =
      some (0x0000, true, false, true, 0x0013) := by decide

/-- VE16, R285 -/
theorem test_aAddMem_VE16 :
    after (((((atA 0x0010 [0x41]).setA 0x0001).setI 0x0100).write8 0x0100 0xFF).write8 0x0101 0xFF) (fun t => (t.a, t.c, t.n, t.z, t.pc)) =
      some (0x0000, true, false, true, 0x0011) := by decide

/-- VE21, R285 -/
theorem test_aAddMem_VE21 :
    after (((((atA 0x0010 [0x41]).setA 0x1234).setI 0xFFFF).setC true).write8 0xFFFF 0xFF) (fun t => (t.a, t.c, t.n, t.z, t.pc)) =
      some (0x1234, false, false, false, 0x0011) := by decide

/-- VE17, R286 -/
theorem test_aAddX_VE17 :
    after ((((atA 0x0010 [0x42]).setA 0x7FFF).setX 0x0001).setC true) (fun t => (t.a, t.c, t.n, t.z, t.pc)) =
      some (0x8000, false, true, false, 0x0011) := by decide

/-- VE20, R286 -/
theorem test_aAddX_VE20 :
    after (((atA 0x0010 [0x42]).setA 0xFFFF).setX 0xFFFF) (fun t => (t.a, t.c, t.n, t.z, t.pc)) =
      some (0xFFFE, true, true, false, 0x0011) := by decide

/-- VE18, R287 -/
theorem test_aAddY_VE18 :
    after (((atA 0x0010 [0x43]).setA 0x8000).setY 0x8000) (fun t => (t.a, t.c, t.n, t.z, t.pc)) =
      some (0x0000, true, false, true, 0x0011) := by decide

/-- VE22, R288 -/
theorem test_aSubImm_VE22 :
    after ((atA 0x0010 [0x44, 0x00, 0x01]).setA 0x0005) (fun t => (t.a, t.c, t.n, t.z, t.pc)) =
      some (0x0004, false, false, false, 0x0013) := by decide

/-- VE23, R288 -/
theorem test_aSubImm_VE23 :
    after ((atA 0x0010 [0x44, 0x00, 0x01]).setA 0x0000) (fun t => (t.a, t.c, t.n, t.z, t.pc)) =
      some (0xFFFF, true, true, false, 0x0013) := by decide

/-- VE24, R289 -/
theorem test_aSubMem_VE24 :
    after (((((atA 0x0010 [0x45]).setA 0x1000).setI 0x0100).write8 0x0100 0x20).write8 0x0101 0x00) (fun t => (t.a, t.c, t.n, t.z, t.pc)) =
      some (0xF000, true, true, false, 0x0011) := by decide

/-- VE25, R290 -/
theorem test_aSubX_VE25 :
    after ((((atA 0x0010 [0x46]).setA 0x8000).setX 0x0001).setC true) (fun t => (t.a, t.c, t.n, t.z, t.pc)) =
      some (0x7FFF, false, false, false, 0x0011) := by decide

/-- VE26, R291 -/
theorem test_aSubY_VE26 :
    after ((((atA 0x0010 [0x47]).setA 0x0003).setY 0x0003).setC true) (fun t => (t.a, t.c, t.n, t.z, t.pc)) =
      some (0x0000, false, false, true, 0x0011) := by decide

/-- VE27, R292 -/
theorem test_aCmpImm_VE27 :
    after ((atA 0x0010 [0x48, 0x00, 0x05]).setA 0x0005) (fun t => (t.a, t.c, t.n, t.z, t.pc)) =
      some (0x0005, false, false, true, 0x0013) := by decide

/-- VE28, R293 -/
theorem test_aCmpMem_VE28 :
    after (((((atA 0x0010 [0x49]).setA 0x0001).setI 0x0100).write8 0x0100 0x00).write8 0x0101 0x02) (fun t => (t.a, t.c, t.n, t.z, t.pc)) =
      some (0x0001, true, true, false, 0x0011) := by decide

/-- VE31, R294 -/
theorem test_aCmpX_VE31 :
    after (((atA 0x0010 [0x4A]).setA 0x8000).setX 0x7FFF) (fun t => (t.a, t.c, t.n, t.z, t.pc)) =
      some (0x8000, false, false, false, 0x0011) := by decide

/-- VE32, R294 -/
theorem test_aCmpX_VE32 :
    after (((atA 0x0010 [0x4A]).setA 0x7FFF).setX 0x8000) (fun t => (t.a, t.c, t.n, t.z, t.pc)) =
      some (0x7FFF, true, true, false, 0x0011) := by decide

/-- VE30, R295 -/
theorem test_aCmpY_VE30 :
    after (((((atA 0x0010 [0x4B]).setA 0x0000).setY 0x0000).setC true).setN true) (fun t => (t.a, t.c, t.n, t.z, t.pc)) =
      some (0x0000, false, false, true, 0x0011) := by decide

/-- VE33, R296 -/
theorem test_aShl_VE33 :
    after ((atA 0x0010 [0x4C]).setA 0x4001) (fun t => (t.a, t.c, t.n, t.z, t.pc)) =
      some (0x8002, false, true, false, 0x0011) := by decide

/-- VE34, R296 -/
theorem test_aShl_VE34 :
    after ((atA 0x0010 [0x4C]).setA 0x8000) (fun t => (t.a, t.c, t.n, t.z, t.pc)) =
      some (0x0000, true, false, true, 0x0011) := by decide

/-- VE35, R297 -/
theorem test_aShr_VE35 :
    after ((atA 0x0010 [0x4D]).setA 0x8003) (fun t => (t.a, t.c, t.n, t.z, t.pc)) =
      some (0x4001, true, false, false, 0x0011) := by decide

/-- VE37, R297 -/
theorem test_aShr_VE37 :
    after ((((atA 0x0010 [0x4D]).setA 0x0000).setC true).setN true) (fun t => (t.a, t.c, t.n, t.z, t.pc)) =
      some (0x0000, false, false, true, 0x0011) := by decide

/-- VE38, R298 -/
theorem test_aRol_VE38 :
    after (((atA 0x0010 [0x4E]).setA 0x8001).setC true) (fun t => (t.a, t.c, t.n, t.z, t.pc)) =
      some (0x0003, true, false, false, 0x0011) := by decide

/-- VE40, R298 -/
theorem test_aRol_VE40 :
    after (((atA 0x0010 [0x4E]).setA 0x0000).setC true) (fun t => (t.a, t.c, t.n, t.z, t.pc)) =
      some (0x0001, false, false, false, 0x0011) := by decide

/-- VE41, R299 -/
theorem test_aRor_VE41 :
    after (((atA 0x0010 [0x4F]).setA 0x0002).setC true) (fun t => (t.a, t.c, t.n, t.z, t.pc)) =
      some (0x8001, false, true, false, 0x0011) := by decide

/-- VE43, R299 -/
theorem test_aRor_VE43 :
    after (((atA 0x0010 [0x4F]).setA 0x0000).setC true) (fun t => (t.a, t.c, t.n, t.z, t.pc)) =
      some (0x8000, false, true, false, 0x0011) := by decide

/-- VX1: an unassigned opcode is a one-byte no-op with a diagnostic. -/
theorem test_unknown_opcode_VX1 :
    after ((atB 0x0010 [0xC5]).setRx 0x07) (fun t => (t.pc, t.rx, t.running, t.diags)) =
      some (0x0011, 0x07, true, [⟨.unknownOpcode, 0xC5, 0x0010⟩]) := by decide

/-- VX5: `CLS` of Variant B is unassigned in Variant A. -/
theorem test_unknown_opcode_VX5 :
    after (lit (atA 0x0010 [0xE0]) [(3, 4)]) (fun t => (t.pc, t.cell 3 4, t.diags)) =
      some (0x0011, 0x01, [⟨.unknownOpcode, 0xE0, 0x0010⟩]) := by decide

/-! ### The run loop, the host, reset -/

/-- VH9: with no key `LD Rx, K` holds: nothing is counted, nothing ticks. -/
theorem test_key_hold_VH9 :
    after (given (((atB 0x0002 [0xFA]).setDt 0x04).setRunCount (some 10) 0) ⟨1, [], none, []⟩)
      (fun t => (t.pc, t.dt, t.gov, t.executed)) = some (0x0002, 0x04, some 10, 0) := by decide

/-- R87, R347: a display call of the host during a run is a step of its own, so that a snapshot reader sees what it leaves
before the next call or cycle: here a clear between a lit screen and a cycle that draws. -/
theorem test_host_call_R87 :
    let s := given (lit (atB 0x0002 [0xD0, 0x01]) [(3, 4)]) ⟨1, [], none, [.clear, .setPixel 5 6]⟩
    after s (fun t => (t.cell 3 4, t.cell 5 6, t.pc, t.executed, t.sample.displayMoves)) =
      some (0x00, 0x00, 0x0002, 0, [.setPixel 5 6]) := by decide

/-- R341, R347: a load that the host makes between runs. -/
theorem test_host_load :
    after (State.reset.setHostMoves [.loadProgram [0x00, 0x02, 0xE0, 0xAA], .run])
      (fun t => (t.read8 1, t.read8 3, t.pc, t.running, t.hostMoves)) =
      some (0x02, 0xAA, 0x0002, false, [.run]) := by decide

/-- S8: one permitted cycle, then the run has ended governed, with the count 1. -/
theorem test_governor_S8 :
    after ((atB 0x0002 [0x60, 0x07]).setRunCount (some 1) 0)
      (fun t => (t.gov, t.running, runEnd t, runResult t)) = some (some 0, true, some .governed, some 1) := by decide

/-- S8: `run(0)` executes nothing and leaves the running flag set. -/
theorem test_run_zero_S8 :
    after (State.reset.setHostMoves [.runFor 0]) (fun t => (t.gov, t.running, runEnd t, runResult t)) =
      some (some 0, true, some .governed, some 0) := by decide

/-- VH4: a load after a run. -/
theorem test_load_VH4 :
    let t := (((State.reset.write8 0 0x00).write8 1 0x02).setPc 0x0003).loadProgram [0x60, 0x09, 0xAA]
    (t.pc, t.read8 3, t.read8 4, t.read8 5, t.read8 1) = (0x0002, 0x60, 0x09, 0xAA, 0x02) := by decide

/-- VH7: the bytes of an image past 0xFFFF are dropped. -/
theorem test_load_VH7 :
    let t := (State.reset.setPc 0xFFFE).loadProgram [1, 2, 3, 4]
    (t.read8 0xFFFE, t.read8 0xFFFF, t.read8 0, t.read8 1, t.pc) = (1, 2, 0, 0, 0x0000) := by decide

/-- VH2: `Construct([0x12])`. -/
theorem test_construct_VH2 :
    let t := State.construct .default [0x12]
    (t.read8 0, t.pc, t.running, t.gov) = (0x12, 0x1200, false, none) := by decide

/-- R346: the sound query. -/
theorem test_sound : isSoundActive (State.reset.setSt 0x03) = some true ∧ isSoundActive State.reset = some false ∧
    isSoundActive (State.reset.setVariant .a) = none := by decide

/-- The word of a table row, placed where the machine fetches next, runs. -/
theorem test_withFetchWord :
    after (State.reset.withFetchWord 24 0x341210) (fun t => t.pc) = some 0x1234 ∧
    after (State.reset.withFetchWord 8 0x10) (fun t => (t.pc, t.params.variant)) = some (0x0001, .a) ∧
    after (State.reset.withFetchWord 8 0xFA) (fun t => (t.pc, t.executed)) = some (0x0001, 1) ∧
    decodeTableWord 24 0x341210 = some (.bJp 0x1234) ∧ decodeTableWord 8 0x10 = some .aTax := by decide

/-! ### Primitives -/

/-- S2: a word write at 0x0100 and at 0xFFFE. -/
theorem test_word_write_S2 :
    (let t := State.reset.write16 0x0100 0xBEEF; (t.read8 0x0100, t.read8 0x0101, t.read16 0x0100)) =
      (0xBE, 0xEF, 0xBEEF) ∧
    (let t := State.reset.write16 0xFFFE 0x1234; (t.read8 0xFFFE, t.read8 0xFFFF, t.read16 0xFFFE)) =
      (0x12, 0x34, 0x1234) := by decide

/-- Reset in a build with another `WRITE_WORD_TOP`. -/
def topped (w : WordTop) : State :=
  .resetWith { Params.default with wordTop := w }

/-- S2: a word write at 0xFFFF, by `WRITE_WORD_TOP`. -/
theorem test_word_write_top_S2 :
    [WordTop.reject, .highOnly, .wrap].map (fun w =>
      let t := (topped w).write16 0xFFFF 0x1234
      (t.read8 0xFFFF, t.read8 0x0000)) = [(0x00, 0x00), (0x12, 0x00), (0x12, 0x34)] := by decide

/-- S2, VM1, VM8: word reads at the top, unaligned, and over bytes written one by one. -/
theorem test_word_read :
    (State.reset.write8 0xFFFF 0x77).read16 0xFFFF = 0x0000 ∧
    ((State.reset.write8 0x00FF 0x12).write8 0x0100 0x34).read16 0x00FF = 0x1234 ∧
    (State.reset.write8 0x0200 0xFF).read16 0x01FF = 0x00FF := by decide

/-- S1, VM2: addresses are taken modulo 65536. -/
theorem test_byte_address_wraps :
    (State.reset.write8 0x10000 0x77).read8 0x0000 = 0x77 ∧ (State.reset.write8 0x0001 0xAA).read8 0x10001 = 0xAA := by
  decide

/-- VM3, VM4: an array read is truncated at the top. -/
theorem test_array_read :
    ((State.reset.write8 0xFFFF 0x80).write8 0x0000 0xFF).readArray 0xFFFF 3 = [0x80] ∧
    State.reset.readArray 0x0100 0 = [] := by decide

/-- VM6: a word operand at 0xFFFF. -/
theorem test_fetch_word_VM6 :
    (let f := ((State.reset.write8 0xFFFF 0x42).setPc 0xFFFF).fetch16; (f.1, f.2.pc)) = (0x0000, 0x0001) := by decide

/-- VK1, VK2, S4: the ring wraps both ways. -/
theorem test_stack_wraps :
    (let t := (stacked State.reset 255 0).push 0xABCD; (t.sp, t.slot 0)) = (0, 0xABCD) ∧
    (let s := stacked State.reset 0 0xABCD; (s.top, s.pop.sp)) = (0xABCD, 255) := by decide

/-- S3, VG7, VG9: pixels. -/
theorem test_pixels :
    (setPixel .default [] 5 7).1 = false ∧ getCell .default (setPixel .default [] 5 7).2 5 7 = 0x01 ∧
    setPixel .default [] 64 0 = (false, []) ∧
    (let d := (setPixelColor .default [] 2 3 0x7F).2; setPixel .default d 2 3) = (true, []) := by decide

/-- VG1, VG2, VG6: clipping at both edges, and no rows. -/
theorem test_sprite_clips :
    drawSprite .default [] [0xFF] 60 0 = (false, [(60, 0x01), (61, 0x01), (62, 0x01), (63, 0x01)]) ∧
    drawSprite .default [] [0x80, 0x80, 0x80] 0 30 = (false, [(30 * 64, 0x01), (31 * 64, 0x01)]) ∧
    drawSprite .default [(0, 0x01)] [] 0 0 = (false, [(0, 0x01)]) := by decide

/-- S5, VG3, VG5: the answer is the last toggled cell's. -/
theorem test_sprite_answer :
    drawSprite .default [(0, 0x01)] [0x80] 0 0 = (true, []) ∧
    drawSprite .default [(0, 0x01)] [0xC0] 0 0 = (false, [(1, 0x01)]) ∧
    drawSprite .default [(0, 0x01)] [0x80, 0x00] 0 0 = (true, []) := by decide

/-! ### The hypotheses of the statements are met -/

/-- The least legal build, a build of Variant A, and the default. -/
theorem witness_ResetMeetsInvariant :
    (⟨.b, 1, 1, 0xFF, .wrap⟩ : Params).wf ∧ (⟨.a, 64, 32, 0x01, .highOnly⟩ : Params).wf ∧ Params.default.wf := by decide

/-- A step with a display call of the host to make, and one that draws. -/
theorem witness_StepKeepsInvariant :
    (let s := given (atB 0x0010 [0xD0, 0x01]) ⟨3, [], none, [.setPixel 63 31]⟩; s.Inv ∧ ∃ t, step s = .next t) ∧
    (let s := atB 0x0010 [0xD0, 0x01]; s.Inv ∧ ∃ t, step s = .next t) :=
  ⟨⟨by decide, next_of_after (by decide)⟩, by decide, next_of_after (by decide)⟩

theorem witness_StepKeepsParameters : ∃ t, step ((topped .wrap).setHostMoves [.writeWord 0xFFFF 0x1234]) = .next t :=
  next_of_after (by decide)

theorem witness_DecodeOfEncode :
    (Instr.bJp 0xFFFF).wellFormed .b = true ∧ (Instr.aBzcRel 0x80).wellFormed .a = true := by decide

theorem witness_EncodeOfDecode :
    decode .b [0xA0, 0x00, 0xFF, 0x55] = .ok (.bLdI 0x00FF, [0x55]) ∧
    decode .a [0x53, 0xFC] = .ok (.aBccRel 0xFC, []) := ⟨rfl, rfl⟩

/-- A display call to make; an instruction in the middle of memory; one whose operand would begin at 0xFFFF; and the
key read with a key pressed. -/
theorem witness_StepRunsDecodedInstruction :
    (let s := given (atB 0x0010 [0xE0]) ⟨0, [], none, [.clear, .setPixel 64 32]⟩;
      s.runActive = true ∧ s.sample.displayMoves = .clear :: [.setPixel 64 32]) ∧
    (let s := atB 0x0010 [0x60, 0x07];
      s.cycleDue ∧ (∃ rest, decode .b s.bytesAtPc = .ok (.bLdRxImm 0x07, rest))) ∧
    (let s := atB 0xFFFE [0x10, 0x12];
      s.cycleDue ∧ (∃ rest, decode .b s.bytesAtPc = .ok (.bJp 0x0000, rest))) ∧
    (let s := given (atB 0x0010 [0xFA]) ⟨0, [], some 0x07, []⟩;
      s.cycleDue ∧ (∃ rest, decode .b s.bytesAtPc = .ok (.bLdRxK, rest)) ∧ s.nextKey ≠ none) :=
  ⟨by decide, ⟨by decide, _, rfl⟩, ⟨by decide, _, rfl⟩, ⟨by decide, ⟨_, rfl⟩, by decide⟩⟩

theorem witness_UnknownOpcodeIsOneByteNoOp :
    let s := atB 0x0010 [0xC5, 0x12, 0x34]
    s.cycleDue ∧ ∀ i rest, decode s.params.variant s.bytesAtPc ≠ .ok (i, rest) := by
  refine ⟨by decide, fun i rest h => ?_⟩
  have e : decode .b (atB 0x0010 [0xC5, 0x12, 0x34]).bytesAtPc = .error (.unassigned 0xC5) := rfl
  cases e.symm.trans h

/-- A wait with no display call to make, and one with a call. -/
theorem witness_KeyWaitHolds :
    (let s := given (atB 0x0010 [0xFA]) ⟨1, [0x05], none, []⟩;
      s.runActive = true ∧ s.waitsForKey ∧ s.sample.displayMoves = []) ∧
    (let s := given (atB 0x0010 [0xFA]) ⟨1, [], none, [.drawSprite [0xFF] 60 31]⟩;
      s.runActive = true ∧ s.waitsForKey ∧ s.sample.displayMoves = .drawSprite [0xFF] 60 31 :: []) := by decide

/-- A cycle with a governor and one without; and a display call. -/
theorem witness_GovernorCountsEveryCycle :
    (let s := (atB 0x0010 [0xE0]).setRunCount (some 1) 0;
      s.runActive = true ∧ s.sample.displayMoves = [] ∧ ¬s.waitsForKey ∧ s.gov = some 1) ∧
    (let s := atA 0x0010 [0xFA];
      s.runActive = true ∧ s.sample.displayMoves = [] ∧ ¬s.waitsForKey ∧ s.gov = none) ∧
    (let s := given ((atB 0x0010 [0xE0]).setRunCount (some 1) 0) ⟨0, [], none, [.clear]⟩;
      s.runActive = true ∧ s.sample.displayMoves ≠ [] ∧ s.gov = some 1) := by decide

/-- `run(0)` at once ended, and `run(1)` after its cycle. -/
theorem witness_GovernorBoundsTheRun :
    (∃ t, Sys2Proof.core.run 0 (State.reset.startRun (some 0)) = .next t ∧ t.runActive = false ∧ t.running = true) ∧
    (let s := atB 0x0010 [0xE0];
      s.hostMoves = [] ∧ ∃ t, Sys2Proof.core.run 1 (s.startRun (some 1)) = .next t ∧ t.runActive = false ∧
        t.running = true) :=
  ⟨⟨_, rfl, rfl, rfl⟩, rfl, _, rfl, rfl, rfl⟩

theorem witness_HaltEndsTheRun :
    (let s := atB 0x0004 [0xAA];
      s.cycleDue ∧ s.params.variant = .b ∧ s.read8 s.pc.toNat = 0xAA) ∧
    (let s := atA 0xFFFF [0x01];
      s.cycleDue ∧ s.params.variant = .a ∧ s.read8 s.pc.toNat = 0x01) := by decide

/-- No move; a move of each kind; and a governed run that has ended. -/
theorem witness_OutsideARunOnlyTheHostActs :
    (State.reset.runActive = false ∧ State.reset.hostMoves = []) ∧
    (∀ move ∈ ([.loadProgram [0x00, 0x02, 0xAA], .run, .runFor 3, .writeByte 0x10000 0x01, .writeWord 0xFFFF 0x1234,
        .memReset, .display (.setPixel 63 31)] : List HostMove),
      let s := (topped .wrap).setHostMoves (move :: [.run])
      s.runActive = false ∧ s.hostMoves = move :: [.run]) ∧
    (let s := (atB 0x0010 []).setRunCount (some 0) 5 |>.setHostMoves [.runFor 0];
      s.runActive = false ∧ s.hostMoves = .runFor 0 :: []) := by decide

theorem witness_InstructionsWriteOnlyWhatTheSummaryLists :
    ∃ t, exec (.bDrw 0x01) ((atB 0x0010 []).setI 0x0020) = .next t := ⟨_, rfl⟩

/-- A step of each variant, and a step of Variant A in a run with no display call. -/
theorem witness_VariantsKeepApart :
    (∃ t, step (atB 0x0010 [0x84]) = .next t) ∧
    (let s := atA 0x0010 [0x42];
      (∃ t, step s = .next t) ∧ s.params.variant = .a ∧ s.runActive = true ∧ s.sample.displayMoves = []) :=
  ⟨next_of_after (by decide), next_of_after (by decide), by decide⟩

theorem witness_DiagnosticsAreAppendOnly : ∃ t, step (atA 0x0010 [0x00]) = .next t :=
  next_of_after (by decide)

theorem witness_ProgramsCannotReadHiddenState :
    let s := atB 0x0010 [0x89]
    let s' := (s.setSt 0x03).setRunCount (some 9) 4
    s.visible = s'.visible ∧ s ≠ s' := ⟨rfl, by decide⟩

/-- The last address below the top, and the top with each `WRITE_WORD_TOP`. -/
theorem witness_WordWriteStoresTwoBytes :
    65534 % 65536 ≠ 0xFFFF ∧ 131071 % 65536 = 0xFFFF ∧
    [WordTop.reject, .highOnly, .wrap].map (fun w => (topped w).params.wordTop) = [.reject, .highOnly, .wrap] := by
  decide

/-- The last byte before the top of memory, of a longer read. -/
theorem witness_ArrayReadTruncatesAtTheTop : 0 < min 3 (65536 - 0xFFFF % 65536) ∧ 1 < min 3 (65536 - 0xFFFE % 65536) := by
  decide

/-- All 256 slots, of more values pushed; and nothing popped. -/
theorem witness_RingReversesPushes :
    (256 ≤ (List.replicate 257 (0x1234 : Word)).length ∧ 256 ≤ 256) ∧ 0 ≤ ([] : List Word).length := by
  refine ⟨⟨?_, by decide⟩, by decide⟩
  rw [List.length_replicate]
  decide

/-- The last cell, and one past each edge. -/
theorem witness_TogglePixelReportsCollision :
    let p := Params.default
    (63 < p.width ∧ 31 < p.height) ∧ ¬(64 < p.width ∧ 31 < p.height) ∧ ¬(63 < p.width ∧ 32 < p.height) := by decide

/-- A set bit at the right edge with its cell, and a cell that no set bit reaches. -/
theorem witness_SpriteTogglesItsSetBits :
    let p := Params.default
    (1 ≤ p.width ∧ 1 ≤ p.height) ∧
    (∃ i j, SpriteBit p [0xFF] 60 31 i j ∧ 63 = 60 % p.width + j ∧ 31 = 31 % p.height + i) ∧
    ¬∃ i j, SpriteBit p [0x00] 60 31 i j ∧ 63 = 60 % p.width + j ∧ 31 = 31 % p.height + i := by
  refine ⟨by decide, ⟨0, 3, ?_, rfl, rfl⟩, ?_⟩
  · unfold SpriteBit
    decide
  rintro ⟨i, j, ⟨h0, h1, h2, -⟩, -⟩
  have : i = 0 := by simpa using h0
  subst this
  simp at h2

theorem witness_SpriteReportsTheLastToggle :
    (let p := Params.default; 1 ≤ p.width ∧ 1 ≤ p.height) ∧
    (drawSprite .default [(1, 0x01)] [0xC0] 0 0).1 = true ∧ (drawSprite .default [(0, 0x01)] [0xC0] 0 0).1 = false := by
  decide

theorem witness_TimersCountDownToZero :
    (atB 0x0010 []).params.variant = .b ∧ (atA 0x0010 []).params.variant = .a := by decide

/-- A skip that is taken and one that is not, at a 3-byte instruction at the top of memory. -/
theorem witness_SkipsOnImmediates :
    let s := atB 0xFFFE [0x10]
    s.rx = 0x00 ∧ s.rx ≠ 0x01 ∧ specLen .b (s.read8 s.pc.toNat) = 3 := by decide

theorem witness_SkipsOnRegisters :
    State.reset.rx = State.reset.ry ∧ (State.reset.setRx 0x01).rx ≠ (State.reset.setRx 0x01).ry := by decide

theorem witness_SkipsOnKeys :
    let s := given (atB 0x0010 []) ⟨0, [0x00], none, []⟩
    s.rx ∈ s.sample.keysDown ∧ (s.setRx 0x01).rx ∉ (s.setRx 0x01).sample.keysDown := by decide

theorem witness_KeyReadLoadsTheKey :
    (given (atB 0x0010 []) ⟨0, [], some 0xFF, []⟩).nextKey = some 0xFF := by decide

theorem witness_WordStoresThroughI :
    (State.reset.setI 0xFFFE).i ≠ 0xFFFF ∧ (State.reset.setI 0xFFFF).i = 0xFFFF := by decide

/-- Both sides of the offset's sign, each with the branch taken and not taken. -/
theorem witness_RelativeBranches :
    ((0x7F : Byte).toNat < 128 ∧ ¬(0x80 : Byte).toNat < 128) ∧ State.reset.c = false ∧ (State.reset.setC true).c = true := by
  decide

end Sys2Proof.Tests
end

section
/-! What a machine reads right after reset (10_state.md R38). -/

namespace Sys2Proof.Machine

/-- An empty display reads 0x00 inside the grid and outside it. -/
@[simp] theorem getCell_nil (p : Params) (x y : Nat) : getCell p [] x y = 0x00 := by
  rw [getCell, readCell_nil]
  exact ite_self _

@[simp] theorem read8_resetWith (p : Params) (addr : Nat) : (State.resetWith p).read8 addr = 0x00 :=
  readCell_nil _

@[simp] theorem cell_resetWith (p : Params) (x y : Nat) : (State.resetWith p).cell x y = 0x00 :=
  getCell_nil p x y

@[simp] theorem slot_resetWith (p : Params) (k : BitVec 8) : (State.resetWith p).slot k = 0x0000 :=
  Vector.getElem_replicate _

end Sys2Proof.Machine

open Sys2Proof.Machine

/-- Settles O1: the registers, flags and run-loop fields by the definition of reset, and the stack, memory and display,
at every index, by what they read after it. -/
theorem resetLeavesEverythingZero : Obligations.ResetLeavesEverythingZero := by
  intro p
  refine ⟨rfl, rfl, rfl, rfl, rfl, rfl, rfl, rfl, rfl, rfl, rfl, rfl, rfl, rfl, ?stack, ?memory, ?display, rfl, rfl, rfl⟩
  case stack => exact slot_resetWith p
  case memory => exact read8_resetWith p
  case display => exact cell_resetWith p

end

section
/-! Words in main memory (20_memory.md R63, R65): what a word read answers, and every byte after a word write, below the
top address and at it. -/

namespace Sys2Proof.Machine

theorem read16_below_top (s : State) {addr : Nat} (h : addr % 65536 ≠ 0xFFFF) :
    s.read16 addr = wordOf (s.read8 addr) (s.read8 (addr + 1)) :=
  if_neg h

theorem read16_top (s : State) {addr : Nat} (h : addr % 65536 = 0xFFFF) : s.read16 addr = 0x0000 :=
  if_pos h

theorem read8_write16_below_top (s : State) {addr : Nat} (h : addr % 65536 ≠ 0xFFFF) (v : Word) (b : Nat) :
    (s.write16 addr v).read8 b =
      if b % 65536 = addr % 65536 then hiByte v
      else if b % 65536 = addr % 65536 + 1 then loByte v else s.read8 b := by
  have hnext : (addr + 1) % 65536 = addr % 65536 + 1 := by omega
  rw [State.write16, if_pos h, read8_write8, read8_write8, hnext]
  by_cases hb : b % 65536 = addr % 65536
  · rw [if_pos hb, if_pos hb, if_neg (by omega)]
  · rw [if_neg hb, if_neg hb]

theorem read8_write16_top (s : State) {addr : Nat} (h : addr % 65536 = 0xFFFF) (v : Word) (b : Nat) :
    (s.write16 addr v).read8 b =
      if b % 65536 = 0xFFFF ∧ s.params.wordTop ≠ .reject then hiByte v
      else if b % 65536 = 0 ∧ s.params.wordTop = .wrap then loByte v else s.read8 b := by
  rw [State.write16, if_neg (not_not.mpr h)]
  cases s.params.wordTop with
  | reject => simp
  | highOnly => simp [read8_write8]
  | wrap =>
    -- the low byte is written last, at another address than the high byte
    by_cases hb : b % 65536 = 0 <;> simp [read8_write8, hb]

/-- A word written below the top is read back. -/
theorem read16_write16_below_top (s : State) {addr : Nat} (h : addr % 65536 ≠ 0xFFFF) (v : Word) :
    (s.write16 addr v).read16 addr = v := by
  have hhi : (s.write16 addr v).read8 addr = hiByte v := by
    rw [read8_write16_below_top s h, if_pos rfl]
  have hlo : (s.write16 addr v).read8 (addr + 1) = loByte v := by
    rw [read8_write16_below_top s h, if_neg (by omega), if_pos (by omega)]
  rw [read16_below_top _ h, hhi, hlo, wordOf_hiByte_loByte]

end Sys2Proof.Machine

open Sys2Proof.Machine

/-- Settles O24: the bytes after the write, below the top and at it, read as naturals; the frame is `write16`'s. -/
theorem wordWriteStoresTwoBytes : Obligations.WordWriteStoresTwoBytes := by
  refine fun s addr v => ⟨⟨fun h b hb => ?below, fun h b hb => ?top⟩, frame_write16 s addr v⟩
  case below =>
    rw [read8_write16_below_top s h, Nat.mod_eq_of_lt hb, ← hiByte_toNat, ← loByte_toNat]
    split_ifs <;> rfl
  case top =>
    rw [read8_write16_top s h, Nat.mod_eq_of_lt hb, ← hiByte_toNat, ← loByte_toNat]
    split_ifs <;> rfl

/-- Settles O25: a byte by `read8_write8`; a word by its two bytes below the top, and at the top by `read16_top`, which
answers 0x0000 in every state. -/
theorem writesAreReadBack : Obligations.WritesAreReadBack := by
  refine fun s addr => ⟨fun v => ?byte, fun v => ?word⟩
  case byte => rw [read8_write8, if_pos rfl]
  case word =>
    split
    next h => exact read16_top _ h
    next h => exact read16_write16_below_top s h v

/-- Settles O26: the read is a map over its range of offsets. -/
theorem arrayReadTruncatesAtTheTop : Obligations.ArrayReadTruncatesAtTheTop := by
  refine fun s addr len => ⟨?length, fun k hk => ?element⟩
  case length => rw [State.readArray, List.length_map, List.length_range]
  case element => rw [State.readArray, List.getElem?_map, List.getElem?_range hk, Option.map_some]

/-- Settles O22: the read after a byte write, and the frame of `write8`. -/
theorem byteWriteIsReadBack : Obligations.ByteWriteIsReadBack :=
  fun s addr v => ⟨read8_write8 s addr v, frame_write8 s addr v⟩

/-- Settles O23: a word of two bytes as a natural, and `read16_top`. -/
theorem wordReadIsBigEndian : Obligations.WordReadIsBigEndian := by
  intro s addr
  split
  next h => rw [read16_top s h]; rfl
  next h => rw [read16_below_top s h, wordOf_toNat]

/-- Settles O28: inside the grid a toggle is one write to the cell's own key, outside it is nothing. -/
theorem togglePixelReportsCollision : Obligations.TogglePixelReportsCollision := by
  refine fun p d x y x' y' => ⟨fun ⟨hx, hy⟩ => ?inside, setPixel_outside⟩
  case inside =>
    rw [setPixel_inside hx hy]
    exact ⟨rfl, getCell_writeCell hx hy _ x' y'⟩

end

section
/-! The call stack as a ring (20_memory.md R76 to R78): the slots and the pointer after any number of pushes, and the
values and the pointer of any number of pops. -/

namespace Sys2Proof.Machine

@[simp] theorem push_sp (s : State) (v : Word) : (s.push v).sp = s.sp + 1 := rfl

@[simp] theorem pop_sp (s : State) : s.pop.sp = s.sp - 1 := rfl

/-- The last value pushed is the last push. -/
theorem pushAll_concat (s : State) (vs : List Word) (v : Word) : pushAll s (vs ++ [v]) = (pushAll s vs).push v := by
  induction vs generalizing s with
  | nil => rfl
  | cons u vs ih => exact ih (s.push u)

theorem pushAll_sp (s : State) (vs : List Word) : (pushAll s vs).sp = s.sp + BitVec.ofNat 8 vs.length := by
  induction vs generalizing s with
  | nil => simp [pushAll]
  | cons v vs ih =>
    rw [pushAll, ih, push_sp, List.length_cons]
    bv_omega

/-- The slot `j` below the pointer holds the value pushed `j` before the last, as long as the ring has not come round
to it: among the last 256 values. -/
theorem slot_pushAll (s : State) (vs : List Word) {j : Nat} (hj : j < vs.length) (hring : j < 256) :
    (pushAll s vs).slot ((pushAll s vs).sp - BitVec.ofNat 8 j) = vs.reverse[j]'(by simpa using hj) := by
  induction vs using List.reverseRecOn generalizing j with
  | nil => simp at hj
  | append_singleton vs v ih =>
    simp only [pushAll_concat, push_sp, slot_push, List.reverse_concat]
    cases j with
    | zero => simp
    | succ j =>
      have hdown : (pushAll s vs).sp + 1 - BitVec.ofNat 8 (j + 1) = (pushAll s vs).sp - BitVec.ofNat 8 j := by
        bv_omega
      have hother : (pushAll s vs).sp - BitVec.ofNat 8 j ≠ (pushAll s vs).sp + 1 := by bv_omega
      rw [hdown, if_neg hother, List.getElem_cons_succ]
      exact ih (by simpa using hj) (by omega)

/-- Pops change no slot, so they return the slots downwards from the pointer. -/
theorem popAll_values (s : State) (k : Nat) :
    (popAll s k).1 = (List.range k).map fun j => s.slot (s.sp - BitVec.ofNat 8 j) := by
  induction k generalizing s with
  | zero => rfl
  | succ k ih =>
    have hdown (j : Nat) : s.sp - 1#8 - BitVec.ofNat 8 j = s.sp - BitVec.ofNat 8 (j + 1) := by bv_omega
    rw [popAll, ih, List.range_succ_eq_map, List.map_cons, List.map_map]
    simp [State.top, hdown]

theorem popAll_sp (s : State) (k : Nat) : (popAll s k).2.sp = s.sp - BitVec.ofNat 8 k := by
  induction k generalizing s with
  | zero => simp [popAll]
  | succ k ih =>
    rw [popAll, ih, pop_sp]
    bv_omega

end Sys2Proof.Machine

open Sys2Proof.Machine

/-- Settles O27: the values popped are the slots downwards from the pointer, and those hold the last values pushed. -/
theorem ringReversesPushes : Obligations.RingReversesPushes := by
  refine fun s vs k hk hring => ⟨?values, ?pointer⟩
  case values =>
    rw [popAll_values]
    refine List.ext_getElem (by simpa using hk) fun j hj _ => ?_
    have hjk : j < k := by simpa using hj
    rw [List.getElem_map, List.getElem_range, List.getElem_take]
    exact slot_pushAll s vs (by omega) (by omega)
  case pointer =>
    rw [popAll_sp, pushAll_sp]
    bv_omega

end

section
/-! The fetch of a cycle (30_encoding.md R102, R106, R109): every row of a variant's table gives an instruction of that
variant, and a fetch answers the row of the opcode byte at `pc`, or "unassigned" where it has none. -/

namespace Sys2Proof

/-- The instruction a row gives for the operand: `b` where it takes a byte, `w` where it takes a word (R107). -/
def Shape.instr (b : Byte) (w : Word) : Shape → Instr
  | .op i => i
  | .op8 build => build b
  | .op16 build => build w

/-- No row looks at its operand's value to choose the instruction, so the whole table evaluates with the operand left
open. -/
theorem opcodeTable_wellFormed (v : Variant) (b : Byte) (w : Word) :
    (opcodeTable v).all (fun row => (row.2.instr b w).wellFormed v) = true := by
  cases v <;> rfl

theorem opcodeRow_wellFormed {v : Variant} {op : Byte} {shape : Shape} (h : opcodeRow v op = some shape)
    (b : Byte) (w : Word) : (shape.instr b w).wellFormed v = true := by
  obtain ⟨before, after, htable, -⟩ := List.lookup_eq_some_iff.mp h
  have hmem : (op, shape) ∈ opcodeTable v := by simp [htable]
  exact List.all_eq_true.mp (opcodeTable_wellFormed v b w) _ hmem

theorem lenOf_assigned {v : Variant} {op : Byte} {shape : Shape} (h : opcodeRow v op = some shape) :
    lenOf v op = shape.length := by
  rw [lenOf, h]

theorem lenOf_unassigned {v : Variant} {op : Byte} (h : opcodeRow v op = none) : lenOf v op = 1 := by
  rw [lenOf, h]

end Sys2Proof

namespace Sys2Proof.Machine

/-- The instruction a row gives with the operand at the address after `pc` (R66, R67). -/
def State.instrAtPc (s : State) (shape : Shape) : Instr :=
  shape.instr (s.read8 (s.pc + 1).toNat) (s.read16 (s.pc + 1).toNat)

@[simp] theorem setPc_setPc (s : State) (v w : Word) : (s.setPc v).setPc w = s.setPc w := rfl

@[simp] theorem read8_setPc (s : State) (v : Word) (addr : Nat) : (s.setPc v).read8 addr = s.read8 addr :=
  read8_of_mem_eq rfl addr

@[simp] theorem read16_setPc (s : State) (v : Word) (addr : Nat) : (s.setPc v).read16 addr = s.read16 addr :=
  read16_of_mem_eq rfl addr

theorem fetchInstr_assigned {s : State} {shape : Shape}
    (h : opcodeRow s.params.variant (s.read8 s.pc.toNat) = some shape) :
    s.fetchInstr = (.ok (s.instrAtPc shape, []), s.setPc (s.pc + BitVec.ofNat 16 shape.length)) := by
  have hlen := lenOf_assigned h
  simp only [State.fetchInstr, fetch8_eq, fetch16_eq, hlen]
  cases shape with
  | op i => simp [Shape.length, decode, h, State.instrAtPc, Shape.instr]
  | op8 build => simp [Shape.length, decode, h, State.instrAtPc, Shape.instr, BitVec.add_assoc]
  | op16 build => simp [Shape.length, decode, h, State.instrAtPc, Shape.instr, BitVec.add_assoc]

theorem fetchInstr_unassigned {s : State} (h : opcodeRow s.params.variant (s.read8 s.pc.toNat) = none) :
    s.fetchInstr = (.error (.unassigned (s.read8 s.pc.toNat)), s.setPc (s.pc + 1)) := by
  simp [State.fetchInstr, fetch8_eq, lenOf_unassigned h, h, decode]

/-- A fetch advances `pc` by the length of the opcode byte's row, and by 1 where it has none. -/
theorem fetchInstr_snd (s : State) :
    s.fetchInstr.2 = s.setPc (s.pc + BitVec.ofNat 16 (lenOf s.params.variant (s.read8 s.pc.toNat))) := by
  cases h : opcodeRow s.params.variant (s.read8 s.pc.toNat) with
  | none => rw [fetchInstr_unassigned h, lenOf_unassigned h, BitVec.ofNat_eq_ofNat]
  | some shape => rw [fetchInstr_assigned h, lenOf_assigned h]

end Sys2Proof.Machine

open Sys2Proof Sys2Proof.Machine

/-- Settles O8: the advance is by the decoder's length, which is the one R106 lists; the answer is by whether the opcode
byte has a row. -/
theorem fetchAdvancesByLength : Obligations.FetchAdvancesByLength := by
  refine fun s => ⟨?advance, frame_fetchInstr s, ?answer⟩
  case advance =>
    rw [fetchInstr_snd, lenOf_eq_specLen, State.setPc_pc, BitVec.toNat_add, BitVec.toNat_ofNat, Nat.add_mod_mod]
  case answer =>
    cases h : opcodeRow s.params.variant (s.read8 s.pc.toNat) with
    | none => exact .inr (congrArg Prod.fst (fetchInstr_unassigned h))
    | some shape =>
      exact .inl ⟨s.instrAtPc shape, congrArg Prod.fst (fetchInstr_assigned h), opcodeRow_wellFormed h _ _⟩

end

section
/-! Instructions whose meaning is one operation of the state (40_b_control.md R120 to R124, 47_a_control_branch.md R240
to R244, 46_a_load_store_transfer.md R200 to R202): their whole rule from what the operation does and what it leaves. -/

namespace Sys2Proof.Machine

/-- An instruction that always completes in `next s` has the rule that `next` meets. -/
theorem effect_of_next {i : Instr} {bytes : List Byte} {touched : List Part} {post : State → State → Prop}
    (next : State → State) (hencode : encode i = bytes) (hexec : ∀ s, exec i s = .next (next s))
    (hpost : ∀ s, post s (next s)) (hframe : ∀ s, Frame touched s (next s)) : Effect i bytes touched post :=
  ⟨hencode, fun s => ⟨next s, hexec s, hpost s, hframe s⟩⟩

@[simp] theorem call_pc (s : State) (target : Word) : (s.call target).pc = target := rfl

@[simp] theorem call_sp (s : State) (target : Word) : (s.call target).sp = s.sp + 1 := rfl

/-- The slots after a call: the address after the instruction in the slot `sp` then names, the others as before. -/
theorem slot_call (s : State) (target : Word) (k : BitVec 8) :
    (s.call target).slot k = if k = s.sp + 1 then s.pc else s.slot k := by
  rw [State.call, slot_setPc, slot_push]

@[simp] theorem ret_pc (s : State) : s.ret.pc = s.slot s.sp := rfl

@[simp] theorem ret_sp (s : State) : s.ret.sp = s.sp - 1 := rfl

@[simp] theorem diag_diags (s : State) (kind : DiagKind) (op : Byte) (addr : Word) :
    (s.diag kind op addr).diags = s.diags ++ [⟨kind, op, addr⟩] := rfl

/-- The rule of an instruction that jumps (R120, R122, R240, R241). -/
theorem effect_setPc {i : Instr} {bytes : List Byte} {post : State → State → Prop} (target : State → Word)
    (hencode : encode i = bytes) (hexec : ∀ s, exec i s = .next (s.setPc (target s)))
    (hpost : ∀ s, post s (s.setPc (target s))) : Effect i bytes [.pc] post :=
  effect_of_next _ hencode hexec hpost fun s => frame_setPc s (target s)

/-- The rule of an instruction that calls (R121, R242, R243). -/
theorem effect_call {i : Instr} {bytes : List Byte} (target : State → Word) (hencode : encode i = bytes)
    (hexec : ∀ s, exec i s = .next (s.call (target s))) :
    Effect i bytes [.pc, .sp, .stack] fun s t =>
      t.pc = target s ∧ t.sp.toNat = (s.sp.toNat + 1) % 256 ∧ t.slot t.sp = s.pc ∧
        ∀ k, k ≠ t.sp → t.slot k = s.slot k := by
  refine effect_of_next _ hencode hexec (fun s => ⟨call_pc s _, ?pointer, ?pushed, fun k hk => ?others⟩)
    fun s => frame_call s (target s)
  case pointer => rw [call_sp, BitVec.toNat_add]; rfl
  case pushed => rw [slot_call, if_pos (call_sp s _)]
  case others =>
    rw [call_sp] at hk
    rw [slot_call, if_neg hk]

/-- The rule of an instruction that returns (R124, R244). -/
theorem effect_ret {i : Instr} {bytes : List Byte} (hencode : encode i = bytes)
    (hexec : ∀ s, exec i s = .next s.ret) :
    Effect i bytes [.pc, .sp] fun s t => t.pc = s.slot s.sp ∧ t.sp.toNat = (s.sp.toNat + 255) % 256 := by
  refine effect_of_next _ hencode hexec (fun s => ⟨ret_pc s, ?pointer⟩) frame_ret
  case pointer => rw [ret_sp]; bv_omega

/-- The rule of an instruction that halts (R123, R201). -/
theorem effect_halt {i : Instr} {bytes : List Byte} (hencode : encode i = bytes)
    (hexec : ∀ s, exec i s = .next (s.setRunning false)) :
    Effect i bytes [.running] fun _ t => t.running = false :=
  effect_of_next _ hencode hexec (State.setRunning_running · false) (frame_setRunning · false)

end Sys2Proof.Machine

open Sys2Proof.Machine

/-- Settles O33: the three calls are `call` on their target, the two returns are `ret`. -/
theorem callsPushAndReturnsPop : Obligations.CallsPushAndReturnsPop := by
  refine fun addr => ⟨?bCall, ?aCall, ?aCallI, ?bRet, ?aRet⟩
  case bCall => exact effect_call _ rfl fun _ => rfl
  case aCall => exact effect_call _ rfl fun _ => rfl
  case aCallI => exact effect_call _ rfl fun _ => rfl
  case bRet => exact effect_ret rfl fun _ => rfl
  case aRet => exact effect_ret rfl fun _ => rfl

/-- Settles O32: each jump replaces `pc` by its target; the sum of `JP Rx` wraps as a word. -/
theorem jumpsGoToTheirTarget : Obligations.JumpsGoToTheirTarget := by
  refine fun addr => ⟨?bJp, ?bJpRx, ?aJmp, ?aJmpI⟩
  case bJp => exact effect_setPc (fun _ => addr) rfl (fun _ => rfl) fun s => s.setPc_pc addr
  case bJpRx =>
    refine effect_setPc (fun s => BitVec.ofNat 16 (addr.toNat + s.rx.toNat)) rfl (fun _ => rfl) fun s => ?_
    rw [State.setPc_pc, BitVec.toNat_ofNat]
  case aJmp => exact effect_setPc (fun _ => addr) rfl (fun _ => rfl) fun s => s.setPc_pc addr
  case aJmpI => exact effect_setPc State.i rfl (fun _ => rfl) fun s => s.setPc_pc s.i

/-- Settles O34: the halts are `setRunning false`, `NOP` is no operation, and `INT` is one `diag` with the address one
before `pc`, where its opcode was fetched. -/
theorem systemInstructions : Obligations.SystemInstructions := by
  refine ⟨?bExit, ?aHlt, ?aNop, ?aInt⟩
  case bExit => exact effect_halt rfl fun _ => rfl
  case aHlt => exact effect_halt rfl fun _ => rfl
  case aNop => exact effect_of_next id rfl (fun _ => rfl) (fun _ => trivial) Frame.refl
  case aInt =>
    refine effect_of_next (fun s => s.diag .unimplemented 0x00 (s.pc - 1)) rfl (fun _ => rfl)
      (fun s => ⟨s.pc - 1, ?address, diag_diags s _ _ _⟩) fun s => frame_diag s _ _ _
    bv_omega

end

section
/-! Skips (41_b_skip.md R130 to R136): where `Skip()` leaves `pc`, and the rule of an instruction that skips where a
condition on the state holds. -/

namespace Sys2Proof.Machine

theorem skip_pc_toNat (s : State) :
    s.skip.pc.toNat = (s.pc.toNat + specLen .b (s.read8 s.pc.toNat)) % 65536 := by
  rw [State.skip, State.setPc_pc, lenOf_eq_specLen, BitVec.toNat_add, BitVec.toNat_ofNat, Nat.add_mod_mod]

@[simp] theorem skipIf_true (s : State) : s.skipIf true = s.skip := rfl

@[simp] theorem skipIf_false (s : State) : s.skipIf false = s := rfl

/-- The rule of an instruction that skips where `test`, the model's form of `cond`, answers true (R130). -/
theorem effect_skipIf {i : Instr} {bytes : List Byte} {cond : State → Prop} (test : State → Bool)
    (hencode : encode i = bytes) (hexec : ∀ s, exec i s = .next (s.skipIf (test s)))
    (htest : ∀ s, test s = true ↔ cond s) :
    Effect i bytes [.pc] fun s t =>
      (cond s → t.pc.toNat = (s.pc.toNat + specLen .b (s.read8 s.pc.toNat)) % 65536) ∧ (¬cond s → t.pc = s.pc) := by
  refine effect_of_next _ hencode hexec (fun s => ⟨fun h => ?taken, fun h => ?kept⟩) fun s => frame_skipIf s (test s)
  case taken => rw [(htest s).mpr h, skipIf_true, skip_pc_toNat]
  case kept => rw [Bool.eq_false_iff.mpr (mt (htest s).mp h), skipIf_false]

end Sys2Proof.Machine

open Sys2Proof.Machine

/-- Settles O35: each tests one register against the immediate, for equality or for its negation. -/
theorem skipsOnImmediates : Obligations.SkipsOnImmediates := by
  refine fun k => ⟨?seRx, ?seRy, ?sneRx, ?sneRy⟩
  case seRx => exact effect_skipIf (fun s => s.rx == k) rfl (fun _ => rfl) fun _ => beq_iff_eq
  case seRy => exact effect_skipIf (fun s => s.ry == k) rfl (fun _ => rfl) fun _ => beq_iff_eq
  case sneRx => exact effect_skipIf (fun s => s.rx != k) rfl (fun _ => rfl) fun _ => bne_iff_ne
  case sneRy => exact effect_skipIf (fun s => s.ry != k) rfl (fun _ => rfl) fun _ => bne_iff_ne

/-- Settles O36: each tests the two registers against each other, for equality or for its negation. -/
theorem skipsOnRegisters : Obligations.SkipsOnRegisters := by
  refine ⟨?se, ?sne⟩
  case se => exact effect_skipIf (fun s => s.rx == s.ry) rfl (fun _ => rfl) fun _ => beq_iff_eq
  case sne => exact effect_skipIf (fun s => s.rx != s.ry) rfl (fun _ => rfl) fun _ => bne_iff_ne

end

section
/-! 8-bit sums, differences and shifts as numbers, and what F holds after each (10_state.md R25, 42_b_load_alu.md
R160). -/

namespace Sys2Proof.Machine

theorem toNat_sum8 (a b : Byte) : (sum8 a b).toNat = (a.toNat + b.toNat) % 256 :=
  BitVec.toNat_ofNat _ 8

/-- The model adds 256 before it subtracts, so that no difference of naturals is cut off at 0. -/
theorem toNat_diff8 (a b : Byte) : ((diff8 a b).toNat : Int) = ((a.toNat : Int) - b.toNat) % 256 := by
  have hb : b.toNat < 256 := b.isLt
  rw [diff8, BitVec.toNat_ofNat]
  omega

theorem toNat_shiftRight8 (v : Byte) : (shiftRight8 v).toNat = v.toNat / 2 := by
  rw [shiftRight8, BitVec.toNat_ushiftRight, Nat.shiftRight_eq_div_pow, Nat.pow_one]

theorem toNat_shiftLeft8 (v : Byte) : (shiftLeft8 v).toNat = v.toNat * 2 % 256 := by
  rw [shiftLeft8, BitVec.toNat_shiftLeft, Nat.shiftLeft_eq, Nat.pow_one]

theorem flagByte_decide (p : Prop) [Decidable p] : flagByte (decide p) = if p then 0x01 else 0x00 := by
  simp only [flagByte, decide_eq_true_eq]

theorem flagByte_carry8 (a b : Byte) : flagByte (carry8 a b) = if a.toNat + b.toNat > 255 then 0x01 else 0x00 :=
  flagByte_decide _

theorem flagByte_borrow8 (a b : Byte) : flagByte (borrow8 a b) = if a.toNat < b.toNat then 0x01 else 0x00 :=
  flagByte_decide _

theorem toNat_flagByte (b : Bool) : (flagByte b).toNat = b.toNat := by
  cases b <;> rfl

theorem toNat_flagByte_lowBit8 (v : Byte) : (flagByte (lowBit8 v)).toNat = v.toNat % 2 := by
  rw [toNat_flagByte, lowBit8, BitVec.getLsbD, Nat.toNat_testBit, Nat.pow_zero, Nat.div_one]

/-- Bit 7 is the whole quotient by 128, because a byte is below 256. -/
theorem toNat_flagByte_topBit8 (v : Byte) : (flagByte (topBit8 v)).toNat = v.toNat / 128 := by
  have hv : v.toNat < 256 := v.isLt
  rw [toNat_flagByte, topBit8, BitVec.getLsbD, Nat.toNat_testBit]
  omega

end Sys2Proof.Machine

end

section
/-! Variant B loads and the 8-bit ALU (42_b_load_alu.md R145 to R160): the rule of an instruction that writes one byte
register, or Rx and F together. -/

namespace Sys2Proof.Machine

@[simp] theorem setRxF_rx (s : State) (r : Byte) (b : Bool) : (s.setRxF r b).rx = r := rfl

@[simp] theorem setRxF_f (s : State) (r : Byte) (b : Bool) : (s.setRxF r b).f = flagByte b := rfl

section
variable {i : Instr} {bytes : List Byte} {post : State → State → Prop}

/-- The rule of an instruction that writes Rx alone. -/
theorem effect_setRx (value : State → Byte) (hencode : encode i = bytes)
    (hexec : ∀ s, exec i s = .next (s.setRx (value s))) (hpost : ∀ s, post s (s.setRx (value s))) :
    Effect i bytes [.rx] post :=
  effect_of_next _ hencode hexec hpost fun s => frame_setRx s (value s)

/-- The rule of an instruction that writes Ry alone. -/
theorem effect_setRy (value : State → Byte) (hencode : encode i = bytes)
    (hexec : ∀ s, exec i s = .next (s.setRy (value s))) (hpost : ∀ s, post s (s.setRy (value s))) :
    Effect i bytes [.ry] post :=
  effect_of_next _ hencode hexec hpost fun s => frame_setRy s (value s)

/-- The rule of an instruction that writes a result into Rx and a bit into F. -/
theorem effect_setRxF (value : State → Byte) (bit : State → Bool) (hencode : encode i = bytes)
    (hexec : ∀ s, exec i s = .next (s.setRxF (value s) (bit s))) (hpost : ∀ s, post s (s.setRxF (value s) (bit s))) :
    Effect i bytes [.rx, .f] post :=
  effect_of_next _ hencode hexec hpost fun s => frame_setRxF s (value s) (bit s)

/-- The rule of an addition to Rx (R147, R153). -/
theorem effect_addRx (m : State → Byte) (hencode : encode i = bytes)
    (hexec : ∀ s, exec i s = .next (s.setRxF (sum8 s.rx (m s)) (carry8 s.rx (m s)))) :
    Effect i bytes [.rx, .f] fun s t => t.rx.toNat = (s.rx.toNat + (m s).toNat) % 256 ∧
      t.f = if s.rx.toNat + (m s).toNat > 255 then 0x01 else 0x00 := by
  refine effect_setRxF _ _ hencode hexec fun s => ⟨?sum, ?carry⟩
  case sum => rw [setRxF_rx, toNat_sum8]
  case carry => rw [setRxF_f, flagByte_carry8]

/-- The rule of a difference written into Rx (R154, R156). -/
theorem effect_subRx (a m : State → Byte) (hencode : encode i = bytes)
    (hexec : ∀ s, exec i s = .next (s.setRxF (diff8 (a s) (m s)) (borrow8 (a s) (m s)))) :
    Effect i bytes [.rx, .f] fun s t => (t.rx.toNat : Int) = (((a s).toNat : Int) - (m s).toNat) % 256 ∧
      t.f = if (a s).toNat < (m s).toNat then 0x01 else 0x00 := by
  refine effect_setRxF _ _ hencode hexec fun s => ⟨?difference, ?borrow⟩
  case difference => rw [setRxF_rx, toNat_diff8]
  case borrow => rw [setRxF_f, flagByte_borrow8]

end

end Sys2Proof.Machine

open Sys2Proof.Machine

/-- Settles O41: each is a difference of the two registers written into Rx, `SUBN` with the operands exchanged. -/
theorem byteSubtractionsSetBorrow : Obligations.ByteSubtractionsSetBorrow := by
  refine ⟨?sub, ?subn⟩
  case sub => exact effect_subRx State.rx State.ry rfl fun _ => rfl
  case subn => exact effect_subRx State.ry State.rx rfl fun _ => rfl

/-- Settles O42: a shift by one halves or doubles the number, and F holds its bit 0 or its bit 7. -/
theorem byteShiftsSetF : Obligations.ByteShiftsSetF := by
  refine ⟨?shr, ?shl⟩
  case shr =>
    refine effect_setRxF (fun s => shiftRight8 s.rx) (fun s => lowBit8 s.rx) rfl (fun _ => rfl) fun s => ?_
    exact ⟨toNat_shiftRight8 s.rx, toNat_flagByte_lowBit8 s.rx⟩
  case shl =>
    refine effect_setRxF (fun s => shiftLeft8 s.rx) (fun s => topBit8 s.rx) rfl (fun _ => rfl) fun s => ?_
    exact ⟨toNat_shiftLeft8 s.rx, toNat_flagByte_topBit8 s.rx⟩

/-- Settles O38: each is one write of Rx or Ry, with the immediate or another register as its value. -/
theorem byteLoadsAndCopies : Obligations.ByteLoadsAndCopies := by
  refine fun k => ⟨?rxImm, ?ryImm, ?rxRy, ?ryRx, ?rxF⟩
  case rxImm => exact effect_setRx (fun _ => k) rfl (fun _ => rfl) fun s => s.setRx_rx k
  case ryImm => exact effect_setRy (fun _ => k) rfl (fun _ => rfl) fun s => s.setRy_ry k
  case rxRy => exact effect_setRx State.ry rfl (fun _ => rfl) fun s => s.setRx_rx s.ry
  case ryRx => exact effect_setRy State.rx rfl (fun _ => rfl) fun s => s.setRy_ry s.rx
  case rxF => exact effect_setRx State.f rfl (fun _ => rfl) fun s => s.setRx_rx s.f

/-- Settles O39: each writes the bitwise operation of the two registers into Rx, and F is not among what it touches. -/
theorem byteLogicLeavesF : Obligations.ByteLogicLeavesF := by
  refine ⟨?or, ?and, ?xor⟩
  case or =>
    refine effect_setRx (fun s => s.rx ||| s.ry) rfl (fun _ => rfl) fun s k _ => ?_
    rw [State.setRx_rx, BitVec.getLsbD_or]
  case and =>
    refine effect_setRx (fun s => s.rx &&& s.ry) rfl (fun _ => rfl) fun s k _ => ?_
    rw [State.setRx_rx, BitVec.getLsbD_and]
  case xor =>
    refine effect_setRx (fun s => s.rx ^^^ s.ry) rfl (fun _ => rfl) fun s k _ => ?_
    rw [State.setRx_rx, BitVec.getLsbD_xor, Bool.bne_eq_xor]

/-- Settles O40: two are additions to Rx; `ADD Ry, imm8` writes the same sum and carry into Ry and F. -/
theorem byteAdditionsSetCarry : Obligations.ByteAdditionsSetCarry := by
  refine fun k => ⟨?rxImm, ?ryImm, ?rxRy⟩
  case rxImm => exact effect_addRx (fun _ => k) rfl fun _ => rfl
  case ryImm =>
    refine effect_of_next (fun s => (s.setRy (sum8 s.ry k)).setF (flagByte (carry8 s.ry k))) rfl (fun _ => rfl)
      (fun s => ?_) fun s => (frame_setRy s _).trans (frame_setF _ _)
    exact ⟨toNat_sum8 s.ry k, flagByte_carry8 s.ry k⟩
  case rxRy => exact effect_addRx State.ry rfl fun _ => rfl

end

section
/-! Variant B index register, byte transfers through I and BCD (43_b_index_memory.md R170 to R177): the rule of an
instruction that writes I or stores a byte at I, and what three stores at consecutive addresses leave in memory. -/

namespace Sys2Proof.Machine

section
variable {i : Instr} {bytes : List Byte}

/-- The rule of an instruction that writes I alone (R170, R171). -/
theorem effect_setI {post : State → State → Prop} (value : State → Word) (hencode : encode i = bytes)
    (hexec : ∀ s, exec i s = .next (s.setI (value s))) (hpost : ∀ s, post s (s.setI (value s))) :
    Effect i bytes [.i] post :=
  effect_of_next _ hencode hexec hpost fun s => frame_setI s (value s)

/-- The rule of an instruction that stores a byte at I (R172, R173). -/
theorem effect_storeAtI (value : State → Byte) (hencode : encode i = bytes)
    (hexec : ∀ s, exec i s = .next (s.write8 s.i.toNat (value s))) :
    Effect i bytes [.mem] fun s t =>
      ∀ b, b < 65536 → t.read8 b = if b = s.i.toNat then value s else s.read8 b := by
  refine effect_of_next _ hencode hexec (fun s b hb => ?_) fun s => frame_write8 s _ _
  rw [read8_write8, Nat.mod_eq_of_lt hb, Nat.mod_eq_of_lt s.i.isLt]

end

/-- The three addresses differ modulo 65536, so the order in which the bytes are stored does not matter. -/
theorem read8_write8_consecutive (s : State) {addr b : Nat} (haddr : addr < 65536) (hb : b < 65536) (u v w : Byte) :
    (((s.write8 addr u).write8 (addr + 1) v).write8 (addr + 2) w).read8 b =
      if b = addr then u
      else if b = (addr + 1) % 65536 then v
      else if b = (addr + 2) % 65536 then w
      else s.read8 b := by
  rw [read8_write8, read8_write8, read8_write8, Nat.mod_eq_of_lt hb, Nat.mod_eq_of_lt haddr]
  by_cases h0 : b = addr
  · rw [if_neg (by omega), if_neg (by omega), if_pos h0, if_pos h0]
  · by_cases h1 : b = (addr + 1) % 65536
    · rw [if_neg (by omega), if_pos h1, if_neg h0, if_pos h1]
    · rw [if_neg h1, if_neg h0, if_neg h0, if_neg h1]

theorem toNat_bcdHundreds (v : Byte) : (bcdHundreds v).toNat = v.toNat / 100 := by
  rw [bcdHundreds, BitVec.toNat_ofNat]
  have hv : v.toNat < 256 := v.isLt
  omega

theorem toNat_bcdTens (v : Byte) : (bcdTens v).toNat = v.toNat / 10 % 10 := by
  rw [bcdTens, BitVec.toNat_ofNat]
  omega

theorem toNat_bcdOnes (v : Byte) : (bcdOnes v).toNat = v.toNat % 10 := by
  rw [bcdOnes, BitVec.toNat_ofNat]
  omega

/-- The state after `BCD Rx` (R177). -/
def State.storeBcd (s : State) : State :=
  ((s.write8 s.i.toNat (bcdHundreds s.rx)).write8 (s.i.toNat + 1) (bcdTens s.rx)).write8 (s.i.toNat + 2)
    (bcdOnes s.rx)

theorem exec_bBcd (s : State) : exec .bBcd s = .next s.storeBcd := rfl

theorem frame_storeBcd (s : State) : Frame [.mem] s s.storeBcd :=
  OnlyMem.frame s (((onlyMem_write8 ..).trans (onlyMem_write8 ..)).trans (onlyMem_write8 ..))

end Sys2Proof.Machine

open Sys2Proof.Machine

/-- Settles O44: the stores are one byte write at I, the loads one register write with the byte read at I. -/
theorem byteTransfersThroughI : Obligations.ByteTransfersThroughI := by
  refine ⟨?storeRx, ?storeRy, ?loadRx, ?loadRy⟩
  case storeRx => exact effect_storeAtI State.rx rfl fun _ => rfl
  case storeRy => exact effect_storeAtI State.ry rfl fun _ => rfl
  case loadRx => exact effect_setRx (fun s => s.read8 s.i.toNat) rfl (fun _ => rfl) fun s => s.setRx_rx _
  case loadRy => exact effect_setRy (fun s => s.read8 s.i.toNat) rfl (fun _ => rfl) fun s => s.setRy_ry _

/-- Settles O45: three stores at consecutive addresses, each of a digit that fits a byte. -/
theorem bcdStoresThreeDigits : Obligations.BcdStoresThreeDigits := by
  refine effect_of_next State.storeBcd rfl exec_bBcd (fun s b hb => ?_) frame_storeBcd
  rw [State.storeBcd, read8_write8_consecutive s s.i.isLt hb, apply_ite BitVec.toNat, apply_ite BitVec.toNat,
    apply_ite BitVec.toNat, toNat_bcdHundreds, toNat_bcdTens, toNat_bcdOnes]

/-- Settles O43: each is one write of I; the sum of `ADD I, Rx` wraps as a word. -/
theorem indexRegisterLoadsAndAdds : Obligations.IndexRegisterLoadsAndAdds := by
  refine fun addr => ⟨?load, ?add⟩
  case load => exact effect_setI (fun _ => addr) rfl (fun _ => rfl) fun s => s.setI_i addr
  case add =>
    refine effect_setI (fun s => BitVec.ofNat 16 (s.i.toNat + s.rx.toNat)) rfl (fun _ => rfl) fun s => ?_
    rw [State.setI_i, BitVec.toNat_ofNat]

end

section
/-! Variant B timer instructions (44_b_timer_key.md R186 to R188): each is one write of Rx, DT or ST. -/

open Sys2Proof.Machine

/-- Settles O46: the read is one write of Rx with DT, and each set is one write of its timer with Rx, which leaves the
other timer. -/
theorem timerInstructions : Obligations.TimerInstructions := by
  refine ⟨?readDelay, ?setDelay, ?setSound⟩
  case readDelay => exact effect_setRx State.dt rfl (fun _ => rfl) fun s => s.setRx_rx s.dt
  case setDelay =>
    exact effect_of_next (fun s => s.setDt s.rx) rfl (fun _ => rfl) (fun s => s.setDt_dt s.rx) fun s =>
      frame_setDt s s.rx
  case setSound =>
    exact effect_of_next (fun s => s.setSt s.rx) rfl (fun _ => rfl) (fun s => s.setSt_st s.rx) fun s =>
      frame_setSt s s.rx

end

section
/-! Variant B display instructions (45_b_display.md R195, R196): what each cell reads after a write of the display, and
the draw of the sprite at I. -/

namespace Sys2Proof.Machine

@[simp] theorem cell_setDisp (s : State) (d : List Host.Cell) (x y : Nat) :
    (s.setDisp d).cell x y = getCell s.params d x y := rfl

@[simp] theorem cell_setF (s : State) (v : Byte) (x y : Nat) : (s.setF v).cell x y = s.cell x y := rfl

/-- A cleared display reads 0x00 everywhere (R84). -/
@[simp] theorem getCell_clearCells (p : Params) (x y : Nat) : getCell p clearCells x y = 0x00 :=
  getCell_nil p x y

/-- The answer and the cells of drawing the `n` rows at I at column Rx, row Ry (R196). -/
def State.spriteAtI (n : Byte) (s : State) : Bool × List Host.Cell :=
  drawSprite s.params s.disp (s.readArray s.i.toNat n.toNat) s.rx.toNat s.ry.toNat

/-- The state after `DRW n8` (R196). -/
def State.drawAtI (n : Byte) (s : State) : State :=
  (s.setDisp (s.spriteAtI n).2).setF (flagByte (s.spriteAtI n).1)

theorem exec_bDrw (n : Byte) (s : State) : exec (.bDrw n) s = .next (s.drawAtI n) := rfl

theorem cell_drawAtI (n : Byte) (s : State) (x y : Nat) :
    (s.drawAtI n).cell x y = getCell s.params (s.spriteAtI n).2 x y := by
  rw [State.drawAtI, cell_setF, cell_setDisp]

theorem drawAtI_f (n : Byte) (s : State) : (s.drawAtI n).f = if (s.spriteAtI n).1 then 0x01 else 0x00 := by
  rw [State.drawAtI, State.setF_f, flagByte]

theorem frame_drawAtI (n : Byte) (s : State) : Frame [.f, .disp] s (s.drawAtI n) :=
  ((frame_setDisp s _).trans (frame_setF _ _)).mono (by decide)

end Sys2Proof.Machine

open Sys2Proof.Machine

/-- Settles O49: the draw is one write of the display with the drawn cells, then one write of F with the draw's
answer. -/
theorem drawInstructionDrawsTheSprite : Obligations.DrawInstructionDrawsTheSprite := by
  intro n
  exact effect_of_next (State.drawAtI n) rfl (exec_bDrw n) (fun s => ⟨cell_drawAtI n s, drawAtI_f n s⟩)
    (frame_drawAtI n)

/-- Settles O48: the clear is one write of the display, with cells that all read 0x00, and F is not among what it
touches. -/
theorem clearScreenClearsEveryCell : Obligations.ClearScreenClearsEveryCell := by
  refine effect_of_next (fun s => s.setDisp clearCells) rfl (fun _ => rfl) (fun s x y => ?_) fun s =>
    frame_setDisp s clearCells
  rw [cell_setDisp, getCell_clearCells]

end

section
/-! Variant A loads, stores and register transfers (46_a_load_store_transfer.md R203 to R224): the word at I as I's value
says it, and the rule of an instruction that writes one word register or stores a word at I. -/

namespace Sys2Proof.Machine

theorem toNat_mod_eq_top_iff (v : Word) : v.toNat % 65536 = 0xFFFF ↔ v = 0xFFFF := by
  rw [Nat.mod_eq_of_lt v.isLt]
  exact BitVec.toNat_inj (y := 0xFFFF#16)

/-- `wordReadIsBigEndian` at I, with its case split on I itself. -/
theorem toNat_read16_i (s : State) : (s.read16 s.i.toNat).toNat =
    if s.i = 0xFFFF then 0 else (s.read8 s.i.toNat).toNat * 256 + (s.read8 (s.i.toNat + 1)).toNat := by
  simp only [wordReadIsBigEndian s s.i.toNat, toNat_mod_eq_top_iff]

section
variable {i : Instr} {bytes : List Byte} {post : State → State → Prop}

/-- The rule of an instruction that writes A alone. -/
theorem effect_setA (value : State → Word) (hencode : encode i = bytes)
    (hexec : ∀ s, exec i s = .next (s.setA (value s))) (hpost : ∀ s, post s (s.setA (value s))) :
    Effect i bytes [.a] post :=
  effect_of_next _ hencode hexec hpost fun s => frame_setA s (value s)

/-- The rule of an instruction that writes X alone. -/
theorem effect_setX (value : State → Word) (hencode : encode i = bytes)
    (hexec : ∀ s, exec i s = .next (s.setX (value s))) (hpost : ∀ s, post s (s.setX (value s))) :
    Effect i bytes [.x] post :=
  effect_of_next _ hencode hexec hpost fun s => frame_setX s (value s)

/-- The rule of an instruction that writes Y alone. -/
theorem effect_setY (value : State → Word) (hencode : encode i = bytes)
    (hexec : ∀ s, exec i s = .next (s.setY (value s))) (hpost : ∀ s, post s (s.setY (value s))) :
    Effect i bytes [.y] post :=
  effect_of_next _ hencode hexec hpost fun s => frame_setY s (value s)

/-- The rule of an instruction that stores a word at I (R210, R211, R212): `wordWriteStoresTwoBytes` at I, with its
case split on I itself. -/
theorem effect_storeWordAtI (value : State → Word) (hencode : encode i = bytes)
    (hexec : ∀ s, exec i s = .next (s.write16 s.i.toNat (value s))) :
    Effect i bytes [.mem] fun s t =>
      (s.i ≠ 0xFFFF → ∀ b, b < 65536 → (t.read8 b).toNat =
        if b = s.i.toNat then (value s).toNat / 256 else if b = s.i.toNat + 1 then (value s).toNat % 256
        else (s.read8 b).toNat) ∧
      (s.i = 0xFFFF → ∀ b, b < 65536 → (t.read8 b).toNat =
        if b = 0xFFFF ∧ s.params.wordTop ≠ .reject then (value s).toNat / 256
        else if b = 0 ∧ s.params.wordTop = .wrap then (value s).toNat % 256 else (s.read8 b).toNat) := by
  refine effect_of_next _ hencode hexec (fun s => ?stored) fun s => frame_write16 s _ _
  case stored =>
    obtain ⟨⟨hbelow, htop⟩, -⟩ := wordWriteStoresTwoBytes s s.i.toNat (value s)
    rw [Ne, toNat_mod_eq_top_iff, Nat.mod_eq_of_lt s.i.isLt] at hbelow
    rw [toNat_mod_eq_top_iff] at htop
    exact ⟨hbelow, htop⟩

end

end Sys2Proof.Machine

open Sys2Proof.Machine

/-- Settles O51: each is one register write with the word at I. -/
theorem wordLoadsThroughI : Obligations.WordLoadsThroughI := by
  refine ⟨?lda, ?ldx, ?ldy⟩
  case lda => exact effect_setA (fun s => s.read16 s.i.toNat) rfl (fun _ => rfl) toNat_read16_i
  case ldx => exact effect_setX (fun s => s.read16 s.i.toNat) rfl (fun _ => rfl) toNat_read16_i
  case ldy => exact effect_setY (fun s => s.read16 s.i.toNat) rfl (fun _ => rfl) toNat_read16_i

/-- Settles O52: each is one word write at I with its register's value. -/
theorem wordStoresThroughI : Obligations.WordStoresThroughI := by
  refine ⟨?sta, ?stx, ?sty⟩
  case sta => exact effect_storeWordAtI State.a rfl fun _ => rfl
  case stx => exact effect_storeWordAtI State.x rfl fun _ => rfl
  case sty => exact effect_storeWordAtI State.y rfl fun _ => rfl

/-- Settles O50: each is one write of its register with the immediate, and no flag is among what it touches. -/
theorem wordImmediateLoads : Obligations.WordImmediateLoads := by
  refine fun v => ⟨?lda, ?ldx, ?ldy, ?ldi⟩
  case lda => exact effect_setA (fun _ => v) rfl (fun _ => rfl) fun s => s.setA_a v
  case ldx => exact effect_setX (fun _ => v) rfl (fun _ => rfl) fun s => s.setX_x v
  case ldy => exact effect_setY (fun _ => v) rfl (fun _ => rfl) fun s => s.setY_y v
  case ldi => exact effect_setI (fun _ => v) rfl (fun _ => rfl) fun s => s.setI_i v

/-- Settles O53: each is one write of its destination with the source's value, and no flag is among what it touches. -/
theorem registerTransfers : Obligations.RegisterTransfers := by
  refine ⟨?tax, ?tay, ?tai, ?txa, ?txy, ?txi, ?tya, ?tyx, ?tyi, ?tia, ?tix, ?tiy⟩
  case tax => exact effect_setX State.a rfl (fun _ => rfl) fun s => s.setX_x s.a
  case tay => exact effect_setY State.a rfl (fun _ => rfl) fun s => s.setY_y s.a
  case tai => exact effect_setI State.a rfl (fun _ => rfl) fun s => s.setI_i s.a
  case txa => exact effect_setA State.x rfl (fun _ => rfl) fun s => s.setA_a s.x
  case txy => exact effect_setY State.x rfl (fun _ => rfl) fun s => s.setY_y s.x
  case txi => exact effect_setI State.x rfl (fun _ => rfl) fun s => s.setI_i s.x
  case tya => exact effect_setA State.y rfl (fun _ => rfl) fun s => s.setA_a s.y
  case tyx => exact effect_setX State.y rfl (fun _ => rfl) fun s => s.setX_x s.y
  case tyi => exact effect_setI State.y rfl (fun _ => rfl) fun s => s.setI_i s.y
  case tia => exact effect_setA State.i rfl (fun _ => rfl) fun s => s.setA_a s.i
  case tix => exact effect_setX State.i rfl (fun _ => rfl) fun s => s.setX_x s.i
  case tiy => exact effect_setY State.i rfl (fun _ => rfl) fun s => s.setY_y s.i

end

section
/-! Variant A branches (47_a_control_branch.md R245 to R257): the target of a relative branch as a number, and the
rules of the two branch forms. -/

namespace Sys2Proof.Machine

/-- Sign extension keeps a byte's signed value, modulo 65536. -/
theorem toNat_sext16 (d : Byte) : ((sext16 d).toNat : Int) = d.toInt % 65536 := by
  rw [sext16, BitVec.signExtend, BitVec.toNat_ofInt]
  omega

/-- An address plus the signed offset, which is negative from 128 up (R245). -/
theorem toNat_add_sext16 (addr : Word) (d : Byte) :
    ((addr + sext16 d).toNat : Int) =
      ((addr.toNat : Int) + if d.toNat < 128 then (d.toNat : Int) else (d.toNat : Int) - 256) % 65536 := by
  have hoffset : ((sext16 d).toNat : Int) = d.toInt % 65536 := toNat_sext16 d
  rw [BitVec.toInt_eq_toNat_cond] at hoffset
  rw [BitVec.toNat_add]
  omega

section
variable {i : Instr} {bytes : List Byte} {flag : State → Bool} {taken : Bool}

/-- The rule of a branch to I, where `test` is the model's form of "the flag has the value named" (R245). -/
theorem effect_branchI (test : State → Bool) (hencode : encode i = bytes)
    (hexec : ∀ s, exec i s = .next (s.branchI (test s))) (htest : ∀ s, test s = true ↔ flag s = taken) :
    Effect i bytes [.pc] fun s t => t.pc = if flag s = taken then s.i else s.pc := by
  refine effect_of_next _ hencode hexec (fun s => ?target) fun s => frame_branchI s (test s)
  case target => simp only [branchI_eq_setPc, State.setPc_pc, htest]

/-- The rule of a relative branch by `d`, where `test` is the model's form of "the flag has the value named" (R245). -/
theorem effect_branchRel {d : Byte} (test : State → Bool) (hencode : encode i = bytes)
    (hexec : ∀ s, exec i s = .next (s.branchRel (test s) d)) (htest : ∀ s, test s = true ↔ flag s = taken) :
    Effect i bytes [.pc] fun s t => (t.pc.toNat : Int) = ((s.pc.toNat : Int) +
      if flag s = taken then (if d.toNat < 128 then (d.toNat : Int) else (d.toNat : Int) - 256) else 0) % 65536 := by
  refine effect_of_next _ hencode hexec (fun s => ?target) fun s => frame_branchRel s (test s) d
  case target =>
    simp only [branchRel_eq_setPc, State.setPc_pc, htest]
    by_cases h : flag s = taken
    · rw [if_pos h, if_pos h, toNat_add_sext16]
    · have hpc : s.pc.toNat < 65536 := s.pc.isLt
      rw [if_neg h, if_neg h]
      omega

end

end Sys2Proof.Machine

open Sys2Proof.Machine

/-- Settles O55: each is `branchRel` on its flag or on the flag's negation. -/
theorem relativeBranches : Obligations.RelativeBranches := by
  refine fun d => ⟨?bcs, ?bcc, ?bns, ?bnc, ?bzs, ?bzc⟩
  case bcs => exact effect_branchRel State.c rfl (fun _ => rfl) fun _ => Iff.rfl
  case bcc => exact effect_branchRel (fun s => !s.c) rfl (fun _ => rfl) fun _ => .of_eq (Bool.not_eq_true' _)
  case bns => exact effect_branchRel State.n rfl (fun _ => rfl) fun _ => Iff.rfl
  case bnc => exact effect_branchRel (fun s => !s.n) rfl (fun _ => rfl) fun _ => .of_eq (Bool.not_eq_true' _)
  case bzs => exact effect_branchRel State.z rfl (fun _ => rfl) fun _ => Iff.rfl
  case bzc => exact effect_branchRel (fun s => !s.z) rfl (fun _ => rfl) fun _ => .of_eq (Bool.not_eq_true' _)

/-- Settles O54: each is `branchI` on its flag or on the flag's negation. -/
theorem branchesToI : Obligations.BranchesToI := by
  refine ⟨?bcs, ?bcc, ?bns, ?bnc, ?bzs, ?bzc⟩
  case bcs => exact effect_branchI State.c rfl (fun _ => rfl) fun _ => Iff.rfl
  case bcc => exact effect_branchI (fun s => !s.c) rfl (fun _ => rfl) fun _ => .of_eq (Bool.not_eq_true' _)
  case bns => exact effect_branchI State.n rfl (fun _ => rfl) fun _ => Iff.rfl
  case bnc => exact effect_branchI (fun s => !s.n) rfl (fun _ => rfl) fun _ => .of_eq (Bool.not_eq_true' _)
  case bzs => exact effect_branchI State.z rfl (fun _ => rfl) fun _ => Iff.rfl
  case bzc => exact effect_branchI (fun s => !s.z) rfl (fun _ => rfl) fun _ => .of_eq (Bool.not_eq_true' _)

end

section
/-! Decoding and encoding (30_encoding.md R100 to R109) row by row of a variant's table: what a row decodes and what it
encodes, and that every instruction has a row. -/

namespace Sys2Proof

/-- The operand bytes of a row's format, for the operand `Shape.instr` takes (R100, R107). -/
def Shape.operand (b : Byte) (w : Word) : Shape → List Byte
  | .op _ => []
  | .op8 _ => [b]
  | .op16 _ => [hiByte w, loByte w]

/-- The table and the encoder agree in every row, the operand's value left open. -/
theorem opcodeTable_encode (v : Variant) (b : Byte) (w : Word) :
    (opcodeTable v).map (fun row => encode (row.2.instr b w)) =
      (opcodeTable v).map fun row => row.1 :: row.2.operand b w := by
  cases v <;> rfl

theorem encode_instr_of_row {v : Variant} {op : Byte} {shape : Shape} (h : opcodeRow v op = some shape)
    (b : Byte) (w : Word) : encode (shape.instr b w) = op :: shape.operand b w := by
  obtain ⟨before, after, htable, -⟩ := List.lookup_eq_some_iff.mp h
  have hmem : (op, shape) ∈ opcodeTable v := by simp [htable]
  exact List.map_inj_left.mp (opcodeTable_encode v b w) _ hmem

theorem decode_of_row {v : Variant} {op : Byte} {shape : Shape} (h : opcodeRow v op = some shape)
    (b : Byte) (w : Word) (rest : List Byte) :
    decode v (op :: (shape.operand b w ++ rest)) = .ok (shape.instr b w, rest) := by
  cases shape with
  | op i => simp [decode, h, Shape.operand, Shape.instr]
  | op8 build => simp [decode, h, Shape.operand, Shape.instr]
  | op16 build => simp [decode, h, Shape.operand, Shape.instr]

theorem decode_unassigned {v : Variant} {op : Byte} (h : opcodeRow v op = none) (rest : List Byte) :
    decode v (op :: rest) = .error (.unassigned op) := by
  simp [decode, h]

/-- What decodes begins with the bytes of a row. -/
theorem row_of_decode {v : Variant} {bytes : List Byte} {i : Instr} {rest : List Byte}
    (h : decode v bytes = .ok (i, rest)) :
    ∃ op shape b w, opcodeRow v op = some shape ∧ i = shape.instr b w ∧
      bytes = op :: (shape.operand b w ++ rest) := by
  unfold decode at h
  split at h
  · cases h
  next op bytes =>
    split at h
    · cases h
    next i' hrow =>
      cases h
      exact ⟨op, _, 0, 0, hrow, rfl, rfl⟩
    next build b1 rest' hrow =>
      cases h
      exact ⟨op, _, b1, 0, hrow, rfl, rfl⟩
    next build b1 b2 rest' hrow =>
      cases h
      exact ⟨op, _, 0, wordOf b1 b2, hrow, rfl, by simp [Shape.operand]⟩
    · cases h

/-- Every instruction has a row in its variant's table (R104, R105), which gives it for its own operand. -/
theorem row_of_instr (i : Instr) :
    ∃ shape b w, opcodeRow i.variant (opcodeOf i) = some shape ∧ shape.instr b w = i := by
  cases i with
  | bJp w | bCall w | bLdI w | bJpRx w | aLdaImm w | aLdxImm w | aLdyImm w | aLdiImm w | aJmp w | aCall w
  | aAndImm w | aOrImm w | aXorImm w | aAddImm w | aSubImm w | aCmpImm w =>
    exact ⟨_, 0, w, rfl, rfl⟩
  | bSeRxImm b | bSeRyImm b | bSneRxImm b | bSneRyImm b | bLdRxImm b | bLdRyImm b | bAddRxImm b | bAddRyImm b
  | bDrw b | aBcsRel b | aBccRel b | aBnsRel b | aBncRel b | aBzsRel b | aBzcRel b =>
    exact ⟨_, b, 0, rfl, rfl⟩
  | _ => exact ⟨_, 0, 0, rfl, rfl⟩

end Sys2Proof

open Sys2Proof

/-- Settles O5: the instruction's row encodes it, and decodes what it encodes. -/
theorem decodeOfEncode : Obligations.DecodeOfEncode := by
  intro v i rest hwf
  obtain rfl : i.variant = v := beq_iff_eq.mp hwf
  obtain ⟨shape, b, w, hrow, hi⟩ := row_of_instr i
  have hencode : encode i = opcodeOf i :: shape.operand b w := by rw [← encode_instr_of_row hrow, hi]
  rw [hencode, List.cons_append, decode_of_row hrow, hi]

/-- Settles O6: what decodes is the bytes of a row, which are the encoding of the row's instruction. -/
theorem encodeOfDecode : Obligations.EncodeOfDecode := by
  intro v bytes i rest h
  obtain ⟨op, shape, b, w, hrow, rfl, rfl⟩ := row_of_decode h
  exact ⟨by rw [encode_instr_of_row hrow, List.cons_append], opcodeRow_wellFormed hrow b w⟩

/-- Settles O7: ten strings are the encodings of their instructions, and 0xE0 has no row in Variant A's table. -/
theorem wordsDecodeAsTheRulesSay : Obligations.WordsDecodeAsTheRulesSay :=
  ⟨decodeOfEncode .b (.bJp 0x1234) [] rfl, decodeOfEncode .b (.bSneRyImm 0x00) [] rfl,
    decodeOfEncode .b (.bAddRyImm 0xFF) [] rfl, decodeOfEncode .b .bShl [] rfl, decodeOfEncode .b .bBcd [] rfl,
    decodeOfEncode .b .bLdRxK [] rfl, decodeOfEncode .b (.bDrw 0x02) [] rfl,
    decodeOfEncode .a (.aLdaImm 0x7FFF) [] rfl, decodeOfEncode .a (.aBzcRel 0xF7) [] rfl,
    decodeOfEncode .a (.aSubImm 0x0001) [] rfl, rfl⟩

end

section
/-! What the instructions can do, once: each performs one of 24 operations of the state, on values read from the part
of the state that programs can see, and touches what its row of the access summary lists (10_state.md R39, R40). -/

namespace Sys2Proof.Machine

/-- The value does not look at what no program can read (10_state.md R27, 60_exceptions.md R312). -/
def ReadsVisible {α : Type} (value : State → α) : Prop :=
  ∀ s : State, value s.visible = value s

/-- The operations of the state that instructions perform, with the parts each touches. -/
inductive Operation : List Part → (State → State) → Prop where
  | nop : Operation [] fun s => s
  | setRx {v : State → Byte} : ReadsVisible v → Operation [.rx] fun s => s.setRx (v s)
  | setRy {v : State → Byte} : ReadsVisible v → Operation [.ry] fun s => s.setRy (v s)
  | setRxF {v : State → Byte} {b : State → Bool} : ReadsVisible v → ReadsVisible b →
      Operation [.rx, .f] fun s => s.setRxF (v s) (b s)
  | setRyF {v : State → Byte} {b : State → Bool} : ReadsVisible v → ReadsVisible b →
      Operation [.ry, .f] fun s => (s.setRy (v s)).setF (flagByte (b s))
  | setI {v : State → Word} : ReadsVisible v → Operation [.i] fun s => s.setI (v s)
  | setDt {v : State → Byte} : ReadsVisible v → Operation [.dt] fun s => s.setDt (v s)
  | setSt {v : State → Byte} : Operation [.st] fun s => s.setSt (v s)
  | setA {v : State → Word} : ReadsVisible v → Operation [.a] fun s => s.setA (v s)
  | setX {v : State → Word} : ReadsVisible v → Operation [.x] fun s => s.setX (v s)
  | setY {v : State → Word} : ReadsVisible v → Operation [.y] fun s => s.setY (v s)
  | setPc {v : State → Word} : ReadsVisible v → Operation [.pc] fun s => s.setPc (v s)
  | call {v : State → Word} : ReadsVisible v → Operation [.pc, .sp, .stack] fun s => s.call (v s)
  | ret : Operation [.pc, .sp] State.ret
  | storeByte {v : State → Byte} : ReadsVisible v → Operation [.mem] fun s => s.write8 s.i.toNat (v s)
  | storeWord {v : State → Word} : ReadsVisible v → Operation [.mem] fun s => s.write16 s.i.toNat (v s)
  | storeBcd : Operation [.mem] State.storeBcd
  | draw (n : Byte) : Operation [.f, .disp] (State.drawAtI n)
  | clear : Operation [.disp] fun s => s.setDisp clearCells
  | halt : Operation [.running] fun s => s.setRunning false
  | diag {kind : DiagKind} {op : Byte} {addr : State → Word} :
      Operation [.diags] fun s => s.diag kind op (addr s)
  | logic {r : State → Word} : ReadsVisible r → Operation [.a, .n, .z] fun s => s.logicResult (r s)
  | compare {m : State → Word} : ReadsVisible m → Operation [.c, .n, .z] fun s => s.compareA (m s)
  | arith {r : State → Word} {b : State → Bool} : ReadsVisible r → ReadsVisible b →
      Operation [.a, .c, .n, .z] fun s => s.shiftResult (r s) (b s)

/-- With no key, `LD Rx, K` leaves Rx as it is (R189). -/
theorem exec_bLdRxK (s : State) : exec .bLdRxK s = .next (s.setRx (s.nextKey.getD s.rx)) := by
  show execBLdRxK s = _
  unfold execBLdRxK
  cases s.nextKey <;> rfl

/-- Every instruction completes in every state, by one operation on the parts the access summary lists. -/
theorem exec_operation (i : Instr) : ∃ next, (∀ s, exec i s = .next (next s)) ∧ Operation (writesOf i) next := by
  cases i with
  | aNop => exact ⟨_, fun _ => rfl, .nop⟩
  | bLdRxK => exact ⟨_, exec_bLdRxK, .setRx fun _ => rfl⟩
  | bLdRxImm | bLdRxRy | bOr | bAnd | bXor | bLdRxF | bLdRxMem | bLdRxDt =>
    exact ⟨_, fun _ => rfl, .setRx fun _ => rfl⟩
  | bLdRyImm | bLdRyRx | bLdRyMem => exact ⟨_, fun _ => rfl, .setRy fun _ => rfl⟩
  | bAddRxImm | bAddRxRy | bSub | bShr | bSubn | bShl =>
    exact ⟨_, fun _ => rfl, .setRxF (fun _ => rfl) fun _ => rfl⟩
  | bAddRyImm => exact ⟨_, fun _ => rfl, .setRyF (fun _ => rfl) fun _ => rfl⟩
  | bLdI | bAddIRx | aLdiImm | aTai | aTxi | aTyi => exact ⟨_, fun _ => rfl, .setI fun _ => rfl⟩
  | bLdDtRx => exact ⟨_, fun _ => rfl, .setDt fun _ => rfl⟩
  | bLdStRx => exact ⟨_, fun _ => rfl, .setSt⟩
  | aLdaImm | aLdaMem | aTxa | aTya | aTia => exact ⟨_, fun _ => rfl, .setA fun _ => rfl⟩
  | aLdxImm | aLdxMem | aTax | aTyx | aTix => exact ⟨_, fun _ => rfl, .setX fun _ => rfl⟩
  | aLdyImm | aLdyMem | aTay | aTxy | aTiy => exact ⟨_, fun _ => rfl, .setY fun _ => rfl⟩
  | bJp | bJpRx | aJmp | aJmpI => exact ⟨_, fun _ => rfl, .setPc fun _ => rfl⟩
  | bSeRxImm | bSeRyImm | bSneRxImm | bSneRyImm | bSeRxRy | bSneRxRy | bSkp | bSknp =>
    exact ⟨_, fun s => congrArg Host.Outcome.next (skipIf_eq_setPc s _), .setPc fun _ => rfl⟩
  | aBcsI | aBccI | aBnsI | aBncI | aBzsI | aBzcI =>
    exact ⟨_, fun s => congrArg Host.Outcome.next (branchI_eq_setPc s _), .setPc fun _ => rfl⟩
  | aBcsRel | aBccRel | aBnsRel | aBncRel | aBzsRel | aBzcRel =>
    exact ⟨_, fun s => congrArg Host.Outcome.next (branchRel_eq_setPc s _ _), .setPc fun _ => rfl⟩
  | bCall | aCall | aCallI => exact ⟨_, fun _ => rfl, .call fun _ => rfl⟩
  | bRet | aRet => exact ⟨_, fun _ => rfl, .ret⟩
  | bLdMemRx | bLdMemRy => exact ⟨_, fun _ => rfl, .storeByte fun _ => rfl⟩
  | aStaMem | aStxMem | aStyMem => exact ⟨_, fun _ => rfl, .storeWord fun _ => rfl⟩
  | bBcd => exact ⟨_, exec_bBcd, .storeBcd⟩
  | bDrw n => exact ⟨_, exec_bDrw n, .draw n⟩
  | bCls => exact ⟨_, fun _ => rfl, .clear⟩
  | bExit | aHlt => exact ⟨_, fun _ => rfl, .halt⟩
  | aInt => exact ⟨_, fun _ => rfl, .diag⟩
  | aAndImm | aAndMem | aAndX | aAndY | aOrImm | aOrMem | aOrX | aOrY | aXorImm | aXorMem | aXorX | aXorY =>
    exact ⟨_, fun _ => rfl, .logic fun _ => rfl⟩
  | aCmpImm | aCmpMem | aCmpX | aCmpY => exact ⟨_, fun _ => rfl, .compare fun _ => rfl⟩
  | aAddImm | aAddMem | aAddX | aAddY | aSubImm | aSubMem | aSubX | aSubY | aShl | aShr | aRol | aRor =>
    exact ⟨_, fun _ => rfl, .arith (fun _ => rfl) fun _ => rfl⟩

end Sys2Proof.Machine

end

section
/-! What every operation of an instruction leaves unchanged, keeps and cannot see. -/

namespace Sys2Proof.Machine

/-- An instruction's operation touches nothing but its parts. -/
theorem Operation.frame {parts : List Part} {next : State → State} (h : Operation parts next) (s : State) :
    Frame parts s (next s) := by
  cases h with
  | nop => exact Frame.refl s
  | setRx => exact frame_setRx s _
  | setRy => exact frame_setRy s _
  | setRxF => exact frame_setRxF s _ _
  | setRyF => exact (frame_setRy s _).trans (frame_setF _ _)
  | setI => exact frame_setI s _
  | setDt => exact frame_setDt s _
  | setSt => exact frame_setSt s _
  | setA => exact frame_setA s _
  | setX => exact frame_setX s _
  | setY => exact frame_setY s _
  | setPc => exact frame_setPc s _
  | call => exact frame_call s _
  | ret => exact frame_ret s
  | storeByte => exact frame_write8 s _ _
  | storeWord => exact frame_write16 s _ _
  | storeBcd => exact frame_storeBcd s
  | draw n => exact frame_drawAtI n s
  | clear => exact frame_setDisp s _
  | halt => exact frame_setRunning s _
  | diag => exact frame_diag s _ _ _
  | logic => exact frame_logicResult s _
  | compare => exact frame_compareA s _
  | arith => exact frame_shiftResult s _ _

/-! ### The invariant -/

theorem State.Inv.memory_wf {s : State} (h : s.Inv) : Memory.wf s.mem := by
  obtain ⟨-, hmem, -⟩ := h
  exact hmem

theorem State.Inv.display_wf {s : State} (h : s.Inv) : DisplayWf s.params s.disp := by
  obtain ⟨-, -, hdisp, -⟩ := h
  exact hdisp

/-- What a write of F stores (R25). -/
theorem flagByte_zero_or_one (b : Bool) : flagByte b = 0x00 ∨ flagByte b = 0x01 := by
  cases b <;> decide

theorem State.Inv.setF {s : State} (h : s.Inv) (b : Bool) : (s.setF (flagByte b)).Inv := by
  obtain ⟨hparams, hmem, hdisp, -, hnz⟩ := h
  exact ⟨hparams, hmem, hdisp, flagByte_zero_or_one b, hnz⟩

theorem State.Inv.setMem {s : State} (h : s.Inv) {m : List Host.Cell} (hm : Memory.wf m) : (s.setMem m).Inv := by
  obtain ⟨hparams, -, hrest⟩ := h
  exact ⟨hparams, hm, hrest⟩

theorem State.Inv.setDisp {s : State} (h : s.Inv) {d : List Host.Cell} (hd : DisplayWf s.params d) :
    (s.setDisp d).Inv := by
  obtain ⟨hparams, hmem, -, hrest⟩ := h
  exact ⟨hparams, hmem, hd, hrest⟩

/-- No word has both bit 15 set and the value 0 (R271). -/
theorem State.Inv.setNZ {s : State} (h : s.Inv) (r : Word) : (s.setNZ r).Inv := by
  obtain ⟨hparams, hmem, hdisp, hf, -⟩ := h
  refine ⟨hparams, hmem, hdisp, hf, fun ⟨hn, hz⟩ => ?_⟩
  have hn : r.toNat ≥ 32768 := by simpa [State.setNZ, topBit16_eq] using hn
  have hz : r.toNat = 0 := by simpa [State.setNZ, isZero16_eq] using hz
  omega

theorem State.Inv.write8 {s : State} (h : s.Inv) (addr : Nat) (v : Byte) : (s.write8 addr v).Inv :=
  h.setMem (write8_mem_wf h.memory_wf addr v)

theorem State.Inv.write16 {s : State} (h : s.Inv) (addr : Nat) (v : Word) : (s.write16 addr v).Inv := by
  rw [onlyMem_write16 s addr v]
  exact h.setMem (write16_mem_wf h.memory_wf addr v)

/-- An instruction's operation keeps the invariant. Those that touch nothing it speaks of keep it as it is. -/
theorem Operation.inv {parts : List Part} {next : State → State} (op : Operation parts next) {s : State} (h : s.Inv) :
    (next s).Inv := by
  cases op with
  | setRxF | setRyF => exact h.setF _
  | storeByte => exact h.write8 _ _
  | storeWord => exact h.write16 _ _
  | storeBcd => exact ((h.write8 _ _).write8 _ _).write8 _ _
  | draw => exact (h.setDisp (displayWf_drawSprite h.display_wf _ _ _)).setF _
  | clear => exact h.setDisp (displayWf_clearCells _)
  | logic | compare | arith => exact h.setNZ _
  | _ => exact h

/-! ### What no program can read -/

/-- A word store looks at the address, the word, memory and `WRITE_WORD_TOP` alone. -/
theorem visible_write16 (s : State) (addr : Nat) (v : Word) :
    (s.write16 addr v).visible = s.visible.write16 addr v := by
  have hparams : s.visible.params = s.params := rfl
  unfold State.write16
  rw [hparams]
  split
  · rfl
  · cases s.params.wordTop <;> rfl

/-- What programs can see after an operation is set by what they could see before it. -/
theorem Operation.visible {parts : List Part} {next : State → State} (op : Operation parts next) (s : State) :
    (next s.visible).visible = (next s).visible := by
  cases op with
  | nop | setSt | ret | storeBcd | draw | clear | halt | diag => rfl
  | setRx hv | setRy hv | setI hv | setDt hv | setA hv | setX hv | setY hv | setPc hv | call hv | storeByte hv
  | logic hv | compare hv => simp only [hv s]; rfl
  | setRxF hv hb | setRyF hv hb | arith hv hb => simp only [hv s, hb s]; rfl
  | storeWord hv => simp only [hv s, visible_write16]; rfl

/-! ### The same of `exec` -/

/-- What an instruction answers is its operation's state. -/
theorem operation_of_exec {i : Instr} {s t : State} (h : exec i s = .next t) :
    ∃ next, Operation (writesOf i) next ∧ next s = t := by
  obtain ⟨next, hexec, op⟩ := exec_operation i
  exact ⟨next, op, Host.Outcome.next.inj ((hexec s).symm.trans h)⟩

theorem exec_frame {i : Instr} {s t : State} (h : exec i s = .next t) : Frame (writesOf i) s t := by
  obtain ⟨next, op, rfl⟩ := operation_of_exec h
  exact op.frame s

theorem exec_inv {i : Instr} {s t : State} (hs : s.Inv) (h : exec i s = .next t) : t.Inv := by
  obtain ⟨next, op, rfl⟩ := operation_of_exec h
  exact op.inv hs

theorem exec_completes (i : Instr) (s : State) : ∃ t, exec i s = .next t := by
  obtain ⟨next, hexec, -⟩ := exec_operation i
  exact ⟨next s, hexec s⟩

end Sys2Proof.Machine

open Sys2Proof.Machine

/-- Settles O18: each instruction is one operation, which touches nothing but its parts. -/
theorem instructionsWriteOnlyWhatTheSummaryLists : Obligations.InstructionsWriteOnlyWhatTheSummaryLists :=
  fun _ _ _ => exec_frame

/-- Settles O21: each instruction is one operation, whose visible result is that of the visible state. -/
theorem programsCannotReadHiddenState : Obligations.ProgramsCannotReadHiddenState := by
  intro i s s' hsame
  obtain ⟨next, hexec, op⟩ := exec_operation i
  refine ⟨next s, next s', hexec s, hexec s', ?_⟩
  rw [← op.visible s, hsame, op.visible s']

end

section
/-! The bytes a fetch at `pc` sees (20_memory.md R67, 30_encoding.md R107) decode to what the fetch answers. -/

namespace Sys2Proof

theorem length_encode_of_row {v : Variant} {op : Byte} {shape : Shape} (h : opcodeRow v op = some shape)
    (b : Byte) (w : Word) : (encode (shape.instr b w)).length = shape.length := by
  rw [encode_instr_of_row h]
  cases shape <;> rfl

end Sys2Proof

namespace Sys2Proof.Machine

/-- The row of the opcode byte at `pc`. -/
def State.rowAtPc (s : State) : Option Shape :=
  opcodeRow s.params.variant (s.read8 s.pc.toNat)

/-- A word operand that begins at 0xFFFF reads 0x0000. -/
theorem bytesAtPc_top {s : State} (hpc : s.pc = 0xFFFE) (hlen : specLen s.params.variant (s.read8 s.pc.toNat) = 3) :
    s.bytesAtPc = [s.read8 s.pc.toNat, 0x00, 0x00] := by
  rw [hpc] at hlen ⊢
  exact if_pos ⟨hpc, hlen⟩

theorem bytesAtPc_below_top {s : State} (h : ¬(s.pc = 0xFFFE ∧ specLen s.params.variant (s.read8 s.pc.toNat) = 3)) :
    s.bytesAtPc = [s.read8 s.pc.toNat, s.read8 (s.pc.toNat + 1), s.read8 (s.pc.toNat + 2)] := by
  refine if_neg fun ⟨hpc, hlen⟩ => h ⟨hpc, ?_⟩
  rw [hpc]
  exact hlen

theorem bytesAtPc_head (s : State) : ∃ rest, s.bytesAtPc = s.read8 s.pc.toNat :: rest := by
  by_cases h : s.pc = 0xFFFE ∧ specLen s.params.variant (s.read8 s.pc.toNat) = 3
  · exact ⟨_, bytesAtPc_top h.1 h.2⟩
  · exact ⟨_, bytesAtPc_below_top h⟩

theorem read8_pc_add (s : State) (k : Nat) : s.read8 (s.pc + BitVec.ofNat 16 k).toNat = s.read8 (s.pc.toNat + k) := by
  rw [BitVec.toNat_add, BitVec.toNat_ofNat, Nat.add_mod_mod, read8_mod]

/-- The operand the fetch reads stands in the bytes after the opcode byte. -/
theorem bytesAtPc_of_row {s : State} {shape : Shape} (h : s.rowAtPc = some shape) :
    ∃ rest, s.bytesAtPc = s.read8 s.pc.toNat ::
      (shape.operand (s.read8 (s.pc + 1).toNat) (s.read16 (s.pc + 1).toNat) ++ rest) := by
  have hlen : specLen s.params.variant (s.read8 s.pc.toNat) = shape.length := by
    rw [← lenOf_eq_specLen, lenOf_assigned h]
  have hnext : s.read8 (s.pc + 1).toNat = s.read8 (s.pc.toNat + 1) := read8_pc_add s 1
  cases shape with
  | op i => exact bytesAtPc_head s
  | op8 build =>
    rw [bytesAtPc_below_top (by rw [hlen]; simp [Shape.length]), hnext]
    exact ⟨_, rfl⟩
  | op16 build =>
    by_cases hpc : s.pc = 0xFFFE
    · rw [bytesAtPc_top hpc hlen, read16_top _ (by rw [hpc]; rfl)]
      exact ⟨[], rfl⟩
    · have hbelow : (s.pc + 1).toNat % 65536 ≠ 0xFFFF := by bv_omega
      have hafter : s.read8 ((s.pc + 1).toNat + 1) = s.read8 (s.pc.toNat + 2) := by
        rw [← read8_mod, ← read8_mod s (s.pc.toNat + 2)]
        congr 1
        bv_omega
      rw [bytesAtPc_below_top (fun hc => hpc hc.1), read16_below_top _ hbelow, hafter, hnext]
      exact ⟨[], by simp [Shape.operand]⟩

theorem decode_bytesAtPc_assigned {s : State} {shape : Shape} (h : s.rowAtPc = some shape) :
    ∃ rest, decode s.params.variant s.bytesAtPc = .ok (s.instrAtPc shape, rest) := by
  obtain ⟨rest, hbytes⟩ := bytesAtPc_of_row h
  exact ⟨rest, by rw [hbytes, decode_of_row h]; rfl⟩

theorem decode_bytesAtPc_unassigned {s : State} (h : s.rowAtPc = none) :
    decode s.params.variant s.bytesAtPc = .error (.unassigned (s.read8 s.pc.toNat)) := by
  obtain ⟨rest, hbytes⟩ := bytesAtPc_head s
  rw [hbytes, decode_unassigned h]

end Sys2Proof.Machine

end

section
/-! One cycle (00_scope.md R7): the timers tick, and then the row of the opcode byte at `pc` decides between an unknown
opcode, a wait for a key and an instruction. -/

namespace Sys2Proof.Machine

theorem sample_of_frame {l : List Part} {s t : State} (h : Frame l s t) (hinputs : Part.inputs ∉ l)
    (hdraws : Part.draws ∉ l) : t.sample = s.sample := by
  have hi : t.inputs = s.inputs := h .inputs hinputs
  have hd : t.draws = s.draws := h .draws hdraws
  unfold State.sample
  rw [hi, hd]

@[simp] theorem timerTick_params (s : State) : s.timerTick.params = s.params := frame_timerTick s .params (by decide)

@[simp] theorem timerTick_pc (s : State) : s.timerTick.pc = s.pc := frame_timerTick s .pc (by decide)

@[simp] theorem read8_timerTick (s : State) (addr : Nat) : s.timerTick.read8 addr = s.read8 addr :=
  frame_timerTick s .mem (by decide) addr

@[simp] theorem read16_timerTick (s : State) (addr : Nat) : s.timerTick.read16 addr = s.read16 addr := by
  simp only [State.read16, read8_timerTick]

/-- The state in which a cycle runs what it fetched: the timers ticked, and `pc` after the `len` bytes fetched. -/
def State.fetched (s : State) (len : Nat) : State :=
  s.timerTick.setPc (s.pc + BitVec.ofNat 16 len)

theorem frame_fetched (s : State) (len : Nat) : Frame [.dt, .st, .pc] s (s.fetched len) :=
  (frame_timerTick s).trans (frame_setPc _ _)

theorem sample_fetched (s : State) (len : Nat) : (s.fetched len).sample = s.sample :=
  sample_of_frame (frame_fetched s len) (by decide) (by decide)

/-- `LD Rx, K` with no key is all that holds (R189). -/
theorem holds_iff (i : Instr) (s : State) : holds i s = true ↔ i = .bLdRxK ∧ s.nextKey = none := by
  unfold holds
  split
  · simp
  next h => simpa using fun hi => absurd hi h

theorem holds_fetched (i : Instr) (s : State) (len : Nat) : holds i (s.fetched len) = holds i s := by
  rw [Bool.eq_iff_iff, holds_iff, holds_iff, State.nextKey, sample_fetched, State.nextKey]

theorem rowAtPc_timerTick (s : State) : s.timerTick.rowAtPc = s.rowAtPc := by
  simp only [State.rowAtPc, timerTick_params, timerTick_pc, read8_timerTick]

theorem cycle_unassigned {s : State} (h : s.rowAtPc = none) :
    cycle s = .next (unknownOpcode (s.read8 s.pc.toNat) s.pc (s.fetched 1)).endCycle := by
  have hfetch := fetchInstr_unassigned (s := s.timerTick) ((rowAtPc_timerTick s).trans h)
  simp [cycle, hfetch, State.fetched]

theorem cycle_assigned {s : State} {shape : Shape} (h : s.rowAtPc = some shape) :
    cycle s = if holds (s.instrAtPc shape) s then .next s.consumeInput
      else andThen (exec (s.instrAtPc shape) (s.fetched shape.length)) State.endCycle := by
  have hfetch := fetchInstr_assigned (s := s.timerTick) ((rowAtPc_timerTick s).trans h)
  have hinstr : s.timerTick.instrAtPc shape = s.instrAtPc shape := by simp [State.instrAtPc]
  rw [cycle, hfetch, hinstr, ← holds_fetched _ s shape.length]
  simp only [timerTick_pc]
  rfl

theorem instrAtPc_variant {s : State} {shape : Shape} (h : s.rowAtPc = some shape) :
    (s.instrAtPc shape).variant = s.params.variant :=
  beq_iff_eq.mp (opcodeRow_wellFormed h _ _)

theorem rowAtPc_of_waitsForKey {s : State} (h : s.waitsForKey) : s.rowAtPc = some (.op .bLdRxK) := by
  obtain ⟨hvariant, hop, -⟩ := h
  rw [State.rowAtPc, hvariant, hop]
  rfl

/-- The instruction at `pc` holds exactly where the machine waits for a key. -/
theorem holds_instrAtPc_iff {s : State} {shape : Shape} (h : s.rowAtPc = some shape) :
    holds (s.instrAtPc shape) s = true ↔ s.waitsForKey := by
  rw [holds_iff]
  constructor
  · rintro ⟨hi, hkey⟩
    have hvariant := instrAtPc_variant h
    have hencode : encode (s.instrAtPc shape) = s.read8 s.pc.toNat :: shape.operand _ _ := encode_instr_of_row h _ _
    rw [hi] at hvariant hencode
    exact ⟨hvariant.symm, (List.cons.inj hencode).1.symm, hkey⟩
  · intro hwait
    obtain rfl : shape = .op .bLdRxK := Option.some.inj (h.symm.trans (rowAtPc_of_waitsForKey hwait))
    obtain ⟨-, -, hkey⟩ := hwait
    exact ⟨rfl, hkey⟩

/-- A wait for a key uses up the sample (assumption 6). -/
theorem cycle_waits {s : State} (h : s.waitsForKey) : cycle s = .next s.consumeInput := by
  have hrow := rowAtPc_of_waitsForKey h
  rw [cycle_assigned hrow, if_pos ((holds_instrAtPc_iff hrow).mpr h)]

theorem cycle_runs {s : State} {shape : Shape} (hrow : s.rowAtPc = some shape) (hwait : ¬s.waitsForKey) :
    cycle s = andThen (exec (s.instrAtPc shape) (s.fetched shape.length)) State.endCycle := by
  rw [cycle_assigned hrow, if_neg (mt (holds_instrAtPc_iff hrow).mp hwait)]

/-- What a step can be. -/
inductive StepCase (s : State) : State → Prop where
  /-- Outside a run, no host move to make. -/
  | idle : s.runActive = false → s.hostMoves = [] → StepCase s s
  /-- Outside a run, the host's oldest move. -/
  | hostMove (move : HostMove) (moves : List HostMove) : s.runActive = false → s.hostMoves = move :: moves →
      StepCase s (applyHostMove (s.setHostMoves moves) move)
  /-- In a run, a display call of the host. -/
  | hostCall (move : DisplayMove) (moves : List DisplayMove) : s.runActive = true →
      s.sample.displayMoves = move :: moves → StepCase s (s.hostCall move moves)
  /-- A cycle that waits for a key. -/
  | wait : s.cycleDue → s.waitsForKey → StepCase s s.consumeInput
  /-- A cycle with an unassigned opcode. -/
  | unknown : s.cycleDue → s.rowAtPc = none →
      StepCase s (unknownOpcode (s.read8 s.pc.toNat) s.pc (s.fetched 1)).endCycle
  /-- A cycle that runs an instruction of the build's variant. -/
  | run (i : Instr) (len : Nat) (t : State) : s.cycleDue → i.variant = s.params.variant →
      exec i (s.fetched len) = .next t → StepCase s t.endCycle

/-- Every step answers a next state, by one of the cases. -/
theorem step_cases (s : State) : ∃ t, step s = .next t ∧ StepCase s t := by
  by_cases hactive : s.runActive = true
  · cases hcalls : s.sample.displayMoves with
    | cons move moves => exact ⟨_, step_hostCall hactive hcalls, .hostCall move moves hactive hcalls⟩
    | nil =>
      have hdue : s.cycleDue := ⟨hactive, hcalls⟩
      rw [step_cycle hdue]
      by_cases hwait : s.waitsForKey
      · exact ⟨_, cycle_waits hwait, .wait hdue hwait⟩
      · cases hrow : s.rowAtPc with
        | none => exact ⟨_, cycle_unassigned hrow, .unknown hdue hrow⟩
        | some shape =>
          obtain ⟨t, hexec⟩ := exec_completes (s.instrAtPc shape) (s.fetched shape.length)
          exact ⟨t.endCycle, by rw [cycle_runs hrow hwait, hexec, andThen_next],
            .run _ _ t hdue (instrAtPc_variant hrow) hexec⟩
  · have hidle : s.runActive = false := Bool.eq_false_iff.mpr hactive
    refine ⟨_, step_outside_run hidle, ?_⟩
    unfold hostStep
    split
    next hmoves => exact .idle hidle hmoves
    next hmoves => exact .hostMove _ _ hidle hmoves

theorem stepCase_of_step {s t : State} (h : step s = .next t) : StepCase s t := by
  obtain ⟨u, hu, hcase⟩ := step_cases s
  obtain rfl : u = t := Host.Outcome.next.inj (hu.symm.trans h)
  exact hcase

end Sys2Proof.Machine

end

section
/-! Every step keeps the invariant. -/

namespace Sys2Proof.Machine

theorem State.Inv.timerTick {s : State} (h : s.Inv) : s.timerTick.Inv := by
  obtain ⟨dt, st, htick⟩ := timerTick_eq s
  rw [htick]
  exact h

theorem State.Inv.fetched {s : State} (h : s.Inv) (len : Nat) : (s.fetched len).Inv := h.timerTick

theorem State.Inv.displayMove {s : State} (h : s.Inv) (move : DisplayMove) : (s.displayMove move).Inv :=
  h.setDisp (displayWf_applyDisplayMove h.display_wf move)

theorem State.Inv.loadProgram {s : State} (h : s.Inv) (image : List Byte) : (s.loadProgram image).Inv := by
  obtain ⟨m, pc, hm, hload⟩ := loadProgram_eq s image
  rw [hload]
  exact h.setMem (hm h.memory_wf)

/-- A move of the host keeps the invariant; starting a run touches nothing it speaks of. -/
theorem State.Inv.applyHostMove {s : State} (h : s.Inv) (move : HostMove) : (applyHostMove s move).Inv := by
  cases move with
  | loadProgram image => exact h.loadProgram image
  | run | runFor => exact h
  | writeByte addr v => exact h.write8 addr v
  | writeWord addr v => exact h.write16 addr v
  | memReset => exact h.setMem (memReset_mem_wf s)
  | display move => exact h.displayMove move

end Sys2Proof.Machine

open Sys2Proof Sys2Proof.Machine

/-- Settles O3, by the cases of a step: an instruction's operation, a move or call of the host, and bookkeeping that
touches nothing the invariant speaks of. -/
theorem stepKeepsInvariant : Obligations.StepKeepsInvariant := by
  intro s t hs hstep
  cases stepCase_of_step hstep with
  | idle => exact hs
  | hostMove move moves =>
    have hqueue : (s.setHostMoves moves).Inv := hs
    exact hqueue.applyHostMove move
  | hostCall move moves => exact hs.displayMove move
  | wait => exact hs
  | unknown => exact hs.fetched 1
  | run i len u _ _ hexec =>
    have hu : u.Inv := exec_inv (hs.fetched len) hexec
    exact hu

/-- Settles O2: at reset both stores are empty and every register and flag is 0. -/
theorem resetMeetsInvariant : Obligations.ResetMeetsInvariant := by
  have hreset (p : Params) (hp : p.wf) : (State.resetWith p).Inv :=
    ⟨hp, cellsWf_nil _, cellsWf_nil _, .inl rfl, fun ⟨hn, _⟩ => Bool.false_ne_true hn⟩
  exact ⟨hreset, hreset .default (by decide)⟩

/-- Settles O10: a step has a case in every state, and an instruction an operation. -/
theorem nothingStopsTheMachine : Obligations.NothingStopsTheMachine := by
  refine ⟨fun s => ?_, exec_completes⟩
  obtain ⟨t, hstep, -⟩ := step_cases s
  exact ⟨t, hstep⟩

end

section
/-! What a step leaves unchanged: the frame of a host move, of an instruction of either variant, and of the cycle around
it. -/

namespace Sys2Proof.Machine

theorem frame_applyHostMove (s : State) (move : HostMove) : Frame (hostTouches move) s (applyHostMove s move) := by
  have hrun (limit : Option Nat) : Frame [.running, .gov, .executed] s (s.startRun limit) :=
    (frame_startRun s limit).mono (by decide)
  cases move with
  | loadProgram image => exact frame_loadProgram s image
  | run => exact hrun none
  | runFor n => exact hrun (some n)
  | writeByte addr v => exact frame_write8 s addr v
  | writeWord addr v => exact frame_write16 s addr v
  | memReset => exact frame_setMem s []
  | display move => exact frame_displayMove s move

/-- What the moves of the host between runs may change, taken together. -/
def hostParts : List Part := [.mem, .pc, .running, .gov, .executed, .disp]

theorem hostTouches_subset (move : HostMove) : ∀ p ∈ hostTouches move, p ∈ hostParts := by
  cases move <;> simp [hostTouches, hostParts]

/-- The step that makes the host's oldest move. -/
theorem frame_hostMove (s : State) (move : HostMove) (moves : List HostMove) :
    Frame (.hostMoves :: hostParts) s (applyHostMove (s.setHostMoves moves) move) :=
  (frame_setHostMoves s moves).trans ((frame_applyHostMove _ move).mono (hostTouches_subset move))

/-- What the run loop and the host keep for themselves. -/
def loopParts : List Part := [.params, .gov, .executed, .inputs, .draws, .hostMoves]

/-- What belongs to the other variant (10_state.md R20): its registers, and in a build of Variant A the display too,
which only instructions of Variant B write (R39). -/
def foreignParts : Variant → List Part
  | .b => [.a, .x, .y, .c, .n, .z]
  | .a => [.rx, .ry, .f, .dt, .st, .disp]

theorem writesOf_all_own (i : Instr) :
    (loopParts ++ foreignParts i.variant).all (fun p => !(writesOf i).contains p) = true := by
  cases i <;> rfl

/-- No instruction writes a part of the run loop's, the host's or the other variant's. -/
theorem exec_keeps {i : Instr} {s t : State} (h : exec i s = .next t) {p : Part}
    (hp : p ∈ loopParts ++ foreignParts i.variant) : p.Same s t := by
  refine exec_frame h p ?_
  simpa using List.all_eq_true.mp (writesOf_all_own i) p hp

theorem exec_keeps_loopParts {i : Instr} {s t : State} (h : exec i s = .next t) {p : Part} (hp : p ∈ loopParts) :
    p.Same s t :=
  exec_keeps h (List.mem_append_left _ hp)

/-- What an unassigned opcode leaves after its fetch. -/
theorem frame_unknown_of_fetched (s : State) (op : Byte) :
    Frame [.diags, .gov, .executed, .inputs, .draws] (s.fetched 1)
      (unknownOpcode op s.pc (s.fetched 1)).endCycle :=
  (frame_diag _ _ _ _).trans (frame_endCycle _)

/-- A cycle with an unassigned opcode: the tick, the byte fetched, one diagnostic record and the end of the cycle. -/
theorem frame_unknown (s : State) (op : Byte) :
    Frame [.dt, .st, .pc, .diags, .gov, .executed, .inputs, .draws] s
      (unknownOpcode op s.pc (s.fetched 1)).endCycle :=
  (frame_fetched s 1).trans (frame_unknown_of_fetched s op)

end Sys2Proof.Machine

open Sys2Proof.Machine

/-- Settles O4: no case of a step touches the parameters. -/
theorem stepKeepsParameters : Obligations.StepKeepsParameters := by
  intro s t hstep
  cases stepCase_of_step hstep with
  | idle => rfl
  | hostMove move moves => exact frame_hostMove s move moves .params (by decide)
  | hostCall move moves => exact frame_hostCall s move moves .params (by decide)
  | wait => rfl
  | unknown => exact frame_unknown s _ .params (by decide)
  | run i len u _ _ hexec =>
    have hfetched : (s.fetched len).params = s.params := frame_fetched s len .params (by decide)
    have hinstr : u.params = (s.fetched len).params := exec_keeps_loopParts (p := .params) hexec (by decide)
    exact hinstr.trans hfetched

end

section
/-! The diagnostic list (60_exceptions.md R312, R316): at most one record in a step. -/

namespace Sys2Proof.Machine

/-- From `s` to `t` at most one record was appended, and none removed. -/
def Appended (s t : State) : Prop :=
  ∃ l, t.diags = s.diags ++ l ∧ l.length ≤ 1

theorem appended_of_same {s t : State} (h : t.diags = s.diags) : Appended s t :=
  ⟨[], by rw [h, List.append_nil], Nat.zero_le 1⟩

theorem appended_diag (s : State) (kind : DiagKind) (op : Byte) (addr : Word) : Appended s (s.diag kind op addr) :=
  ⟨[⟨kind, op, addr⟩], diag_diags s kind op addr, Nat.le_refl 1⟩

theorem Operation.appended {parts : List Part} {next : State → State} (op : Operation parts next) (s : State) :
    Appended s (next s) := by
  have hframe : Frame parts s (next s) := op.frame s
  cases op with
  | diag => exact appended_diag s _ _ _
  | _ => exact appended_of_same (hframe .diags (by decide))

theorem exec_appended {i : Instr} {s t : State} (h : exec i s = .next t) : Appended s t := by
  obtain ⟨next, op, rfl⟩ := operation_of_exec h
  exact op.appended s

/-- The cycle around an instruction appends nothing. -/
theorem Appended.cycle {s t : State} {len : Nat} (h : Appended (s.fetched len) t) : Appended s t.endCycle := by
  obtain ⟨l, hl, hlen⟩ := h
  have hfetched : (s.fetched len).diags = s.diags := frame_fetched s len .diags (by decide)
  exact ⟨l, by rw [← hfetched, ← hl]; rfl, hlen⟩

end Sys2Proof.Machine

open Sys2Proof.Machine

/-- Settles O20: an instruction and an unassigned opcode append at most one record, and nothing else touches the
list. -/
theorem diagnosticsAreAppendOnly : Obligations.DiagnosticsAreAppendOnly := by
  intro s t hstep
  cases stepCase_of_step hstep with
  | idle => exact appended_of_same rfl
  | hostMove move moves => exact appended_of_same (frame_hostMove s move moves .diags (by decide))
  | hostCall move moves => exact appended_of_same (frame_hostCall s move moves .diags (by decide))
  | wait => exact appended_of_same rfl
  | unknown => exact (appended_diag (s.fetched 1) _ _ _).cycle
  | run i len u _ _ hexec => exact (exec_appended hexec).cycle

end

section
/-! The two variants (10_state.md R20, R39, R40): no step touches what belongs to the other variant, but for a display
call of the host. -/

namespace Sys2Proof.Machine

/-- What belongs to both variants, to the run loop or to the host. -/
def sharedParts : List Part := [.hostMoves, .mem, .pc, .running, .gov, .executed, .inputs, .draws, .diags]

theorem foreignParts_not_shared {v : Variant} {p : Part} (hp : p ∈ foreignParts v) : p ∉ sharedParts := by
  revert p
  cases v <;> decide

/-- Variant A has no timers, so there the tick touches nothing of Variant B's. -/
theorem fetched_keeps_foreign {s : State} {p : Part} (hp : p ∈ foreignParts s.params.variant) (len : Nat) :
    p.Same s (s.fetched len) := by
  cases hv : s.params.variant with
  | b =>
    refine frame_fetched s len p ?_
    rw [hv] at hp
    revert p
    decide
  | a =>
    have htick : s.timerTick = s := by rw [State.timerTick, hv]
    rw [State.fetched, htick]
    exact (frame_setPc s _).mono (by decide) p (foreignParts_not_shared hp)

theorem step_keeps_foreign {s t : State} (hstep : step s = .next t) {p : Part}
    (hp : p ∈ foreignParts s.params.variant)
    (hdisp : p = .disp → s.runActive = true ∧ s.sample.displayMoves = []) : p.Same s t := by
  have hshared : p ∉ sharedParts := foreignParts_not_shared hp
  cases stepCase_of_step hstep with
  | idle => exact .refl s p
  | hostMove move moves hidle =>
    have hp' : p ∉ Part.disp :: sharedParts := by
      refine List.not_mem_cons_of_ne_of_not_mem (fun h => ?_) hshared
      simp [(hdisp h).1] at hidle
    exact (frame_hostMove s move moves).mono (by decide) p hp'
  | hostCall move moves _ hcalls =>
    have hp' : p ∉ Part.disp :: sharedParts := by
      refine List.not_mem_cons_of_ne_of_not_mem (fun h => ?_) hshared
      simp [(hdisp h).2] at hcalls
    exact (frame_hostCall s move moves).mono (by decide) p hp'
  | wait => exact (frame_consumeInput s).mono (by decide) p hshared
  | unknown =>
    exact (fetched_keeps_foreign hp 1).trans
      ((frame_unknown_of_fetched s _).mono (by decide) p hshared)
  | run i len u _ hvariant hexec =>
    have hi : p ∈ loopParts ++ foreignParts i.variant := List.mem_append_right _ (hvariant ▸ hp)
    exact ((fetched_keeps_foreign hp len).trans (exec_keeps hexec hi)).trans
      ((frame_endCycle u).mono (by decide) p hshared)

end Sys2Proof.Machine

open Sys2Proof.Machine

/-- Settles O19: each register named is one of the other variant's parts; so is the display in Variant A. -/
theorem variantsKeepApart : Obligations.VariantsKeepApart := by
  refine fun s t hstep => ⟨fun hv => ?b, fun hv => ?a⟩
  case b =>
    have kept (p : Part) (hp : p ∈ foreignParts .b) : p.Same s t :=
      step_keeps_foreign hstep (hv ▸ hp) fun h => absurd (h ▸ hp) (by decide)
    exact ⟨kept .a (by decide), kept .x (by decide), kept .y (by decide), kept .c (by decide), kept .n (by decide),
      kept .z (by decide)⟩
  case a =>
    have kept (p : Part) (hp : p ∈ foreignParts .a) (hne : p ≠ .disp) : p.Same s t :=
      step_keeps_foreign hstep (hv ▸ hp) fun h => absurd h hne
    refine ⟨kept .rx (by decide) (by decide), kept .ry (by decide) (by decide), kept .f (by decide) (by decide),
      kept .dt (by decide) (by decide), kept .st (by decide) (by decide), fun hactive hcalls => ?_⟩
    have hdisp : Part.disp ∈ foreignParts s.params.variant := by rw [hv]; decide
    exact step_keeps_foreign hstep hdisp fun _ => ⟨hactive, hcalls⟩

end

section
/-! The host's moves: a load (70_reset_and_hazards.md R341), a display call (20_memory.md R82 to R85), and each move
outside a run (R347). -/

namespace Sys2Proof.Machine

/-- The bytes after an image is written from `base` up; those past 0xFFFF are dropped. -/
theorem read8_writeImage (s : State) (base : Nat) (image : List Byte) {addr : Nat} (haddr : addr < 65536) :
    (s.writeImage base image).read8 addr =
      if base ≤ addr ∧ addr < base + image.length then image.getD (addr - base) 0 else s.read8 addr := by
  induction image generalizing s base with
  | nil =>
    rw [State.writeImage, if_neg]
    rw [List.length_nil]
    omega
  | cons v image ih =>
    rw [State.writeImage, List.length_cons]
    split
    next hbase =>
      rw [ih, read8_write8, Nat.mod_eq_of_lt haddr, Nat.mod_eq_of_lt (by omega)]
      by_cases heq : addr = base
      · subst heq
        simp
      · by_cases hin : base + 1 ≤ addr ∧ addr < base + 1 + image.length
        · have hsub : addr - base = addr - (base + 1) + 1 := by omega
          rw [if_pos hin, if_pos (by omega), hsub, List.getD_cons_succ]
        · rw [if_neg hin, if_neg heq, if_neg (by omega)]
    next hbase => rw [if_neg (by omega)]

theorem imageLoaded_loadProgram (s : State) (image : List Byte) : ImageLoaded image s (s.loadProgram image) := by
  refine ⟨fun addr haddr => ?bytes, ?start⟩
  case bytes => rw [State.loadProgram, read8_setPc, read8_writeImage s _ _ haddr]
  case start =>
    rw [State.loadProgram, State.setPc_pc, read8_setPc, read8_setPc, read16_below_top _ (by decide), wordOf_toNat]

/-- An overwrite of a cell (R83): that cell changes if the grid has it, and no other. -/
theorem getCell_setPixelColor (p : Params) (cells : List Host.Cell) (x y : Nat) (color : Byte) (cx cy : Nat) :
    getCell p (setPixelColor p cells x y color).2 cx cy =
      if cx = x ∧ cy = y ∧ x < p.width ∧ y < p.height then color else getCell p cells cx cy := by
  by_cases hin : x < p.width ∧ y < p.height
  · rw [setPixelColor_inside color hin.1 hin.2, getCell_writeCell hin.1 hin.2]
    simp only [hin, and_true]
  · rw [setPixelColor_outside color hin, if_neg fun h => hin h.2.2]

/-- A toggle (R82) overwrites the cell with the other of its two values. -/
theorem setPixel_snd (p : Params) (cells : List Host.Cell) (x y : Nat) :
    (setPixel p cells x y).2 =
      (setPixelColor p cells x y (if getCell p cells x y = 0 then p.pixelOn else 0)).2 := by
  by_cases hin : x < p.width ∧ y < p.height
  · rw [setPixel_inside hin.1 hin.2, setPixelColor_inside _ hin.1 hin.2]
  · rw [setPixel_outside hin, setPixelColor_outside _ hin]

/-- A display call has its effect whenever the cells are those it leaves. -/
theorem displayEffect_of_cells {s t : State} {move : DisplayMove}
    (h : ∀ x y, t.cell x y = getCell s.params (applyDisplayMove s.params s.disp move).2 x y) :
    DisplayEffect s t move := by
  cases move with
  | setPixel x y =>
    intro cx cy
    rw [h, applyDisplayMove, setPixel_snd]
    exact getCell_setPixelColor s.params s.disp x y _ cx cy
  | setPixelColor x y color =>
    exact fun cx cy => (h cx cy).trans (getCell_setPixelColor s.params s.disp x y color cx cy)
  | clear => exact fun cx cy => (h cx cy).trans (getCell_clearCells _ _ _)
  | drawSprite bytes x y => exact h

theorem displayEffect_hostCall (s : State) (move : DisplayMove) (moves : List DisplayMove) :
    DisplayEffect s (s.hostCall move moves) move :=
  displayEffect_of_cells fun _ _ => rfl

/-- The effect of the host's oldest move; taking it off the queue changes nothing the effect speaks of. -/
theorem hostEffect_hostMove (s : State) (move : HostMove) (moves : List HostMove) :
    HostEffect s (applyHostMove (s.setHostMoves moves) move) move := by
  cases move with
  | loadProgram image => exact imageLoaded_loadProgram (s.setHostMoves moves) image
  | run | runFor => exact ⟨rfl, rfl, rfl⟩
  | writeByte addr v => exact read8_write8 (s.setHostMoves moves) addr v
  | writeWord addr v => exact (wordWriteStoresTwoBytes (s.setHostMoves moves) addr v).1
  | memReset => exact fun b => readCell_nil _
  | display move => exact displayEffect_of_cells fun _ _ => rfl

/-- A move of the host leaves the queue. -/
theorem applyHostMove_hostMoves (s : State) (move : HostMove) : (applyHostMove s move).hostMoves = s.hostMoves :=
  (frame_applyHostMove s move).mono (hostTouches_subset move) .hostMoves (by decide)

end Sys2Proof.Machine

open Sys2Proof.Machine

/-- Settles O17: the bytes by induction on the image, and `pc` by a word read at 0. -/
theorem loadProgramCopiesImage : Obligations.LoadProgramCopiesImage :=
  fun s image => ⟨imageLoaded_loadProgram s image, frame_loadProgram s image⟩

/-- Settles O16: outside a run the step is the host's oldest move, with its effect and its frame. -/
theorem outsideARunOnlyTheHostActs : Obligations.OutsideARunOnlyTheHostActs := by
  refine fun s hidle => ⟨fun hmoves => ?none, fun move moves hmoves => ?some⟩
  case none => rw [step_outside_run hidle, hostStep, hmoves]
  case some =>
    refine ⟨_, ?_, rfl, applyHostMove_hostMoves _ move, hostEffect_hostMove s move moves,
      (frame_setHostMoves s moves).trans (frame_applyHostMove _ move)⟩
    rw [step_outside_run hidle, hostStep, hmoves]

end

section
/-! Timers (44_b_timer_key.md R185). -/

namespace Sys2Proof.Machine

theorem toNat_countDown (t : Byte) (ticks : Nat) : (countDown t ticks).toNat = t.toNat - min t.toNat ticks := by
  have ht : t.toNat < 256 := t.isLt
  rw [countDown, BitVec.toNat_ofNat, Nat.mod_eq_of_lt (by omega)]

end Sys2Proof.Machine

open Sys2Proof.Machine

/-- Settles O31: in Variant B each timer counts down by the sample's ticks, in Variant A nothing happens. -/
theorem timersCountDownToZero : Obligations.TimersCountDownToZero := by
  refine fun s => ⟨frame_timerTick s, fun hv => ?b, fun hv => ?a⟩
  case b =>
    rw [State.timerTick, hv]
    exact ⟨toNat_countDown s.dt _, toNat_countDown s.st _⟩
  case a => rw [State.timerTick, hv]

end

section
/-! Steps in a run (00_scope.md R7, 60_exceptions.md R313, 44_b_timer_key.md R189, 70_reset_and_hazards.md R343, R344):
the display call, the instruction at `pc`, the unknown opcode, the wait for a key, the count and the halt. -/

namespace Sys2Proof.Machine

/-- What decodes at `pc` is the instruction of a row. -/
theorem row_of_decode_bytesAtPc {s : State} {i : Instr} {rest : List Byte}
    (h : decode s.params.variant s.bytesAtPc = .ok (i, rest)) :
    ∃ shape, s.rowAtPc = some shape ∧ i = s.instrAtPc shape := by
  cases hrow : s.rowAtPc with
  | none => cases (decode_bytesAtPc_unassigned hrow).symm.trans h
  | some shape =>
    obtain ⟨rest', hdecode⟩ := decode_bytesAtPc_assigned hrow
    cases hdecode.symm.trans h
    exact ⟨shape, rfl, rfl⟩

@[simp] theorem endCycle_executed (s : State) : s.endCycle.executed = s.executed + 1 := rfl

@[simp] theorem endCycle_gov (s : State) : s.endCycle.gov = s.gov.map (· - 1) := rfl

/-- A governor that lets the run go on is above 0. -/
theorem gov_pos_of_runActive {s : State} {g : Nat} (h : s.runActive = true) (hgov : s.gov = some g) : 0 < g := by
  refine Nat.pos_of_ne_zero fun hzero => ?_
  simp [State.runActive, hgov, hzero] at h

theorem runActive_of_frame {l : List Part} {s t : State} (h : Frame l s t) (hrunning : Part.running ∉ l)
    (hgov : Part.gov ∉ l) : t.runActive = s.runActive := by
  have hr : t.running = s.running := h .running hrunning
  have hg : t.gov = s.gov := h .gov hgov
  rw [State.runActive, hr, hg, State.runActive]

/-- From `s` to `t` one cycle was counted and one taken from the governor (R343), and the host's queue is as before. -/
def Counted (s t : State) : Prop :=
  t.executed = s.executed + 1 ∧ t.gov = s.gov.map (· - 1) ∧ t.hostMoves = s.hostMoves

/-- The end of a cycle counts what left the run loop's parts as they were. -/
theorem counted_endCycle {s u : State} (h : ∀ p ∈ loopParts, p.Same s u) : Counted s u.endCycle := by
  have he : u.executed = s.executed := h .executed (by decide)
  have hg : u.gov = s.gov := h .gov (by decide)
  have hm : u.hostMoves = s.hostMoves := h .hostMoves (by decide)
  exact ⟨by rw [endCycle_executed, he], by rw [endCycle_gov, hg], hm⟩

theorem fetched_keeps_loopParts (s : State) (len : Nat) : ∀ p ∈ loopParts, p.Same s (s.fetched len) :=
  fun p hp => frame_fetched s len p (by revert p; decide)

theorem counted_unknown (s : State) (op : Byte) : Counted s (unknownOpcode op s.pc (s.fetched 1)).endCycle :=
  counted_endCycle fun p hp =>
    (fetched_keeps_loopParts s 1 p hp).trans (frame_diag _ _ _ _ p (by revert p; decide))

theorem counted_run {i : Instr} {len : Nat} {s u : State} (hexec : exec i (s.fetched len) = .next u) :
    Counted s u.endCycle :=
  counted_endCycle fun p hp => (fetched_keeps_loopParts s len p hp).trans (exec_keeps_loopParts hexec hp)

/-- A cycle that is not a key wait counts. -/
theorem step_counts {s : State} (hdue : s.cycleDue) (hwait : ¬s.waitsForKey) :
    ∃ t, step s = .next t ∧ Counted s t := by
  rw [step_cycle hdue]
  cases hrow : s.rowAtPc with
  | none => exact ⟨_, cycle_unassigned hrow, counted_unknown s _⟩
  | some shape =>
    obtain ⟨u, hexec⟩ := exec_completes (s.instrAtPc shape) (s.fetched shape.length)
    exact ⟨u.endCycle, by rw [cycle_runs hrow hwait, hexec, andThen_next], counted_run hexec⟩

/-- What a governed run of `n` keeps: the cycles executed and the governor left make `n`. -/
def Governed (n : Nat) (s : State) : Prop :=
  s.hostMoves = [] ∧ s.executed ≤ n ∧ s.gov = some (n - s.executed)

theorem governed_startRun {s : State} (h : s.hostMoves = []) (n : Nat) : Governed n (s.startRun (some n)) :=
  ⟨h, Nat.zero_le n, rfl⟩

theorem Governed.of_frame {n : Nat} {l : List Part} {s t : State} (h : Governed n s) (hframe : Frame l s t)
    (hmoves : Part.hostMoves ∉ l) (hexecuted : Part.executed ∉ l) (hgov : Part.gov ∉ l) : Governed n t := by
  have he : t.executed = s.executed := hframe .executed hexecuted
  have hg : t.gov = s.gov := hframe .gov hgov
  have hm : t.hostMoves = s.hostMoves := hframe .hostMoves hmoves
  unfold Governed
  rwa [hm, he, hg]

/-- A cycle of an active run leaves the governor above 0 before it, so one more fits into `n`. -/
theorem Governed.of_counted {n : Nat} {s t : State} (h : Governed n s) (hactive : s.runActive = true)
    (hcounted : Counted s t) : Governed n t := by
  obtain ⟨hmoves, hle, hgov⟩ := h
  obtain ⟨he, hg, hm⟩ := hcounted
  have hpos : 0 < n - s.executed := gov_pos_of_runActive hactive hgov
  refine ⟨hm.trans hmoves, by omega, ?_⟩
  rw [hg, hgov, he, Option.map_some, Nat.sub_sub]

theorem Governed.step {n : Nat} {s t : State} (h : Governed n s) (hstep : step s = .next t) : Governed n t := by
  cases stepCase_of_step hstep with
  | idle => exact h
  | hostMove move moves _ hmoves => simp [h.1] at hmoves
  | hostCall move moves => exact h.of_frame (frame_hostCall s move moves) (by decide) (by decide) (by decide)
  | wait => exact h
  | unknown hdue => exact h.of_counted hdue.1 (counted_unknown s _)
  | run i len u hdue _ hexec => exact h.of_counted hdue.1 (counted_run hexec)

/-- What every step keeps holds after a run of any length. -/
theorem core_run_keeps {P : State → Prop} (hkeep : ∀ s t, P s → step s = .next t → P t) {k : Nat} {s t : State}
    (hs : P s) (hrun : Sys2Proof.core.run k s = .next t) : P t := by
  induction k generalizing s with
  | zero =>
    cases hrun
    exact hs
  | succ k ih =>
    obtain ⟨u, hu, -⟩ := step_cases s
    exact ih (hkeep s u hs hu) ((core_run_next hu).symm.trans hrun)

/-- A halted machine. -/
theorem runActive_of_halted {s : State} (h : s.running = false) : s.runActive = false := by
  rw [State.runActive, h, Bool.false_and]

theorem betweenRuns_of_halted {α : Type} {s : State} (h : s.running = false) (answer : α) :
    betweenRuns s answer = some answer := by
  rw [betweenRuns, runActive_of_halted h]
  rfl

/-- The step of a halt instruction: one byte fetched, the running flag cleared, the cycle counted. -/
theorem step_halt {s : State} {i : Instr} (hdue : s.cycleDue) (hrow : s.rowAtPc = some (.op i)) (hi : i ≠ .bLdRxK)
    (hexec : ∀ u, exec i u = .next (u.setRunning false)) :
    Machine.step s = .next ((s.fetched 1).setRunning false).endCycle := by
  have hholds : ¬holds i s = true := fun h => hi ((holds_iff i s).mp h).1
  have hinstr : s.instrAtPc (.op i) = i := rfl
  rw [step_cycle hdue, cycle_assigned hrow, hinstr, if_neg hholds, hexec, andThen_next]
  rfl

theorem toNat_fetched_one_pc (s : State) : (s.fetched 1).pc.toNat = (s.pc.toNat + 1) % 65536 := by
  rw [State.fetched, State.setPc_pc, BitVec.toNat_add]
  rfl

end Sys2Proof.Machine

open Sys2Proof Sys2Proof.Machine

/-- Settles O9: the display call, and else the row of the opcode byte that decodes. -/
theorem stepRunsDecodedInstruction : Obligations.StepRunsDecodedInstruction := by
  refine ⟨fun s move moves hactive hcalls => ?call, fun s i rest hdue hdecode hkey => ?cycle⟩
  case call =>
    exact ⟨_, step_hostCall hactive hcalls, displayEffect_hostCall s move moves, hostCall_sample s move moves,
      frame_hostCall s move moves⟩
  case cycle =>
    obtain ⟨shape, hrow, rfl⟩ := row_of_decode_bytesAtPc hdecode
    have hwait : ¬s.waitsForKey := fun hwait => by
      obtain ⟨hi, hnone⟩ := (holds_iff _ s).mp ((holds_instrAtPc_iff hrow).mpr hwait)
      exact hkey hi hnone
    have hlen : (encode (s.instrAtPc shape)).length = shape.length := length_encode_of_row hrow _ _
    rw [step_cycle hdue, cycle_runs hrow hwait, hlen, State.fetched]

/-- Settles O11: bytes that decode to nothing have no row. -/
theorem unknownOpcodeIsOneByteNoOp : Obligations.UnknownOpcodeIsOneByteNoOp := by
  intro s hdue hnone
  have hrow : s.rowAtPc = none := by
    refine Option.eq_none_iff_forall_not_mem.mpr fun shape hshape => ?_
    obtain ⟨rest, hdecode⟩ := decode_bytesAtPc_assigned hshape
    exact hnone _ rest hdecode
  obtain ⟨hexecuted, hgov, -⟩ := counted_unknown s (s.read8 s.pc.toNat)
  have hdiags : (s.fetched 1).diags = s.diags := frame_fetched s 1 .diags (by decide)
  have hafter := frame_unknown_of_fetched s (s.read8 s.pc.toNat)
  have hpc : (unknownOpcode (s.read8 s.pc.toNat) s.pc (s.fetched 1)).endCycle.pc = (s.fetched 1).pc :=
    hafter .pc (by decide)
  refine ⟨(unknownOpcode (s.read8 s.pc.toNat) s.pc (s.fetched 1)).endCycle, ?step, ?pc, ?diags,
    hafter .dt (by decide), hafter .st (by decide), hexecuted, hgov, (frame_unknown s _).mono (by decide)⟩
  case step => rw [step_cycle hdue, cycle_unassigned hrow]
  case pc => rw [hpc, toNat_fetched_one_pc]
  case diags =>
    rw [← hdiags]
    rfl

/-- Settles O12: without a call to make the wait is a cycle that uses up the sample; a call changes nothing the wait
depends on. -/
theorem keyWaitHolds : Obligations.KeyWaitHolds := by
  intro s hactive hwait
  cases hcalls : s.sample.displayMoves with
  | nil =>
    refine ⟨s.consumeInput, ?_, fun _ => frame_consumeInput s, fun _ _ h => nomatch h⟩
    rw [step_cycle ⟨hactive, hcalls⟩, cycle_waits hwait]
  | cons move moves =>
    refine ⟨_, step_hostCall hactive hcalls, (nomatch ·), ?_⟩
    rintro _ _ ⟨rfl, rfl⟩
    refine ⟨displayEffect_hostCall s move moves, ?_, hwait, rfl, frame_hostCall s move moves⟩
    rw [runActive_of_frame (frame_hostCall s move moves) (by decide) (by decide), hactive]

/-- Settles O13: a cycle counts, and a display call touches neither the count nor the governor. -/
theorem governorCountsEveryCycle : Obligations.GovernorCountsEveryCycle := by
  refine fun s hactive => ⟨fun hcalls hwait => ?cycle, fun hcalls => ?call⟩
  case cycle =>
    obtain ⟨t, hstep, hexecuted, hgov, -⟩ := step_counts ⟨hactive, hcalls⟩ hwait
    refine ⟨t, hstep, hexecuted, fun g hg => ⟨gov_pos_of_runActive hactive hg, ?_⟩, fun hnone => ?_⟩
    · rw [hgov, hg, Option.map_some]
    · rw [hgov, hnone, Option.map_none]
  case call =>
    obtain ⟨move, moves, hmoves⟩ := List.exists_cons_of_ne_nil hcalls
    exact ⟨_, step_hostCall hactive hmoves, rfl, rfl⟩

/-- Settles O14: `Governed n` holds when the run starts and every step keeps it. -/
theorem governorBoundsTheRun : Obligations.GovernorBoundsTheRun := by
  intro s t n steps hmoves hrun
  obtain ⟨-, hle, hgov⟩ := core_run_keeps (fun _ _ => Governed.step) (governed_startRun hmoves n) hrun
  refine ⟨hle, hgov, fun hended hrunning => ?_⟩
  have hzero : n - t.executed = 0 := by simpa [State.runActive, hrunning, hgov] using hended
  omega

/-- Settles O15: either halt is one `setRunning false` after a fetch of one byte. -/
theorem haltEndsTheRun : Obligations.HaltEndsTheRun := by
  intro s hdue hop
  have hstep : step s = .next ((s.fetched 1).setRunning false).endCycle := by
    rcases hop with ⟨hv, hop⟩ | ⟨hv, hop⟩
    · exact step_halt (i := .bExit) hdue (by rw [State.rowAtPc, hv, hop]; rfl) (by decide) fun _ => rfl
    · exact step_halt (i := .aHlt) hdue (by rw [State.rowAtPc, hv, hop]; rfl) (by decide) fun _ => rfl
  obtain ⟨hexecuted, -⟩ := counted_run (i := .bExit) (s := s) (len := 1) rfl
  refine ⟨_, hstep, rfl, runActive_of_halted rfl, betweenRuns_of_halted rfl _, ?_, toNat_fetched_one_pc s⟩
  rw [runResult, betweenRuns_of_halted rfl, hexecuted]

end

section
/-! Variant B's keyboard instructions (41_b_skip.md, 44_b_timer_key.md R189). -/

open Sys2Proof.Machine

/-- Settles O37: each tests whether the sample lists the code in Rx, `SKNP` for the negation. -/
theorem skipsOnKeys : Obligations.SkipsOnKeys := by
  have hdown (s : State) : s.keyDown s.rx = true ↔ s.rx ∈ s.sample.keysDown := List.contains_iff_mem
  refine ⟨?skp, ?sknp⟩
  case skp => exact effect_skipIf (fun s => s.keyDown s.rx) rfl (fun _ => rfl) hdown
  case sknp =>
    refine effect_skipIf (fun s => !s.keyDown s.rx) rfl (fun _ => rfl) fun s => ?_
    rw [Bool.not_eq_true', ← Bool.not_eq_true, hdown]

/-- Settles O47: with a key pressed, the value written to Rx is its code. -/
theorem keyReadLoadsTheKey : Obligations.KeyReadLoadsTheKey := by
  refine ⟨rfl, fun s k hkey => ⟨s.setRx k, ?_, s.setRx_rx k, frame_setRx s k⟩⟩
  rw [exec_bLdRxK, hkey, Option.getD_some]

end

section
/-! Variant A's ALU (48_a_alu.md R270 to R300): 16-bit sums, differences, shifts and rotates as numbers, and the rule
of each shape of instruction. -/

namespace Sys2Proof.Machine

theorem toNat_sum16 (a m : Word) : (sum16 a m).toNat = (a.toNat + m.toNat) % 65536 :=
  BitVec.toNat_ofNat _ 16

/-- The model adds 65536 before it subtracts, so that no difference of naturals is cut off at 0. -/
theorem toNat_diff16 (a m : Word) : ((diff16 a m).toNat : Int) = ((a.toNat : Int) - m.toNat) % 65536 := by
  have hm : m.toNat < 65536 := m.isLt
  rw [diff16, BitVec.toNat_ofNat]
  omega

theorem toNat_shiftLeft16 (v : Word) : (shiftLeft16 v).toNat = v.toNat * 2 % 65536 := by
  rw [shiftLeft16, BitVec.toNat_shiftLeft, Nat.shiftLeft_eq, Nat.pow_one]

theorem toNat_shiftRight16 (v : Word) : (shiftRight16 v).toNat = v.toNat / 2 := by
  rw [shiftRight16, BitVec.toNat_ushiftRight, Nat.shiftRight_eq_div_pow, Nat.pow_one]

theorem toNat_flagWord (c : Bool) : (flagWord c).toNat = c.toNat := by
  cases c <;> rfl

/-- The old carry enters bit 0, which the shift left free. -/
theorem toNat_rotateLeft16 (v : Word) (c : Bool) : (rotateLeft16 v c).toNat = (v.toNat * 2 + c.toNat) % 65536 := by
  have hc : c.toNat < 2 := Bool.toNat_lt c
  have heven : v.toNat * 2 % 65536 = 2 ^ 1 * (v.toNat % 32768) := by omega
  rw [rotateLeft16, BitVec.toNat_or, toNat_shiftLeft16, toNat_flagWord, heven,
    ← Nat.two_pow_add_eq_or_of_lt (i := 1) hc]
  omega

/-- The old carry enters bit 15, which the shift left free. -/
theorem toNat_rotateRight16 (v : Word) (c : Bool) : (rotateRight16 v c).toNat = v.toNat / 2 + c.toNat * 32768 := by
  have hv : v.toNat < 65536 := v.isLt
  have hhalf : v.toNat / 2 < 2 ^ 15 := by omega
  have hcarry : (flagWord c <<< 15).toNat = 2 ^ 15 * c.toNat := by cases c <;> rfl
  rw [rotateRight16, BitVec.toNat_or, toNat_shiftRight16, hcarry, Nat.or_comm,
    ← Nat.two_pow_add_eq_or_of_lt hhalf]
  omega

theorem toNat_lowBit16 (v : Word) : (lowBit16 v).toNat = v.toNat % 2 := by
  rw [lowBit16, BitVec.getLsbD, Nat.toNat_testBit, Nat.pow_zero, Nat.div_one]

/-- Bit 15 is the whole quotient by 32768, because a word is below 65536. -/
theorem toNat_topBit16 (v : Word) : (topBit16 v).toNat = v.toNat / 32768 := by
  have hv : v.toNat < 65536 := v.isLt
  rw [topBit16, BitVec.getLsbD, Nat.toNat_testBit]
  omega

section
variable {i : Instr} {bytes : List Byte}

/-- The rule of a logic instruction (R272 to R283), where `word` is the operation `bit` on words. -/
theorem effect_logic {bit : Bool → Bool → Bool} {word : Word → Word → Word} (m : State → Word)
    (hbit : ∀ a b k, (word a b).getLsbD k = bit (a.getLsbD k) (b.getLsbD k)) (hencode : encode i = bytes)
    (hexec : ∀ s, exec i s = .next (s.logicResult (word s.a (m s)))) :
    Effect i bytes [.a, .n, .z] fun s t =>
      (∀ k, k < 16 → t.a.getLsbD k = bit (s.a.getLsbD k) ((m s).getLsbD k)) ∧
        t.n = decide (t.a.toNat ≥ 32768) ∧ t.z = decide (t.a.toNat = 0) :=
  effect_of_next _ hencode hexec (fun _ => ⟨fun k _ => hbit _ _ k, topBit16_eq _, isZero16_eq _⟩)
    fun s => frame_logicResult s _

/-- The rule of an instruction that writes a result into A and a bit into C, and N and Z from the result. -/
theorem effect_shiftResult {post : State → State → Prop} (result : State → Word) (bit : State → Bool)
    (hencode : encode i = bytes) (hexec : ∀ s, exec i s = .next (s.shiftResult (result s) (bit s)))
    (hpost : ∀ s, post s (s.shiftResult (result s) (bit s))) : Effect i bytes [.a, .c, .n, .z] post :=
  effect_of_next _ hencode hexec hpost fun s => frame_shiftResult s _ _

/-- The rule of an addition to A (R284 to R287). -/
theorem effect_addA (m : State → Word) (hencode : encode i = bytes) (hexec : ∀ s, exec i s = .next (s.addA (m s))) :
    Effect i bytes [.a, .c, .n, .z] fun s t =>
      t.a.toNat = (s.a.toNat + (m s).toNat) % 65536 ∧ t.c = decide (s.a.toNat + (m s).toNat > 65535) ∧
        t.n = decide (t.a.toNat ≥ 32768) ∧ t.z = decide (t.a.toNat = 0) :=
  effect_of_next _ hencode hexec (fun _ => ⟨toNat_sum16 _ _, rfl, topBit16_eq _, isZero16_eq _⟩)
    fun s => frame_addA s (m s)

/-- The rule of a subtraction from A (R288 to R291). -/
theorem effect_subA (m : State → Word) (hencode : encode i = bytes) (hexec : ∀ s, exec i s = .next (s.subA (m s))) :
    Effect i bytes [.a, .c, .n, .z] fun s t =>
      (t.a.toNat : Int) = ((s.a.toNat : Int) - (m s).toNat) % 65536 ∧ t.c = decide (s.a.toNat < (m s).toNat) ∧
        t.n = decide (t.a.toNat ≥ 32768) ∧ t.z = decide (t.a.toNat = 0) :=
  effect_of_next _ hencode hexec (fun _ => ⟨toNat_diff16 _ _, rfl, topBit16_eq _, isZero16_eq _⟩)
    fun s => frame_subA s (m s)

/-- A difference is 0 exactly when the words are equal. -/
theorem isZero16_diff16 (a m : Word) : isZero16 (diff16 a m) = decide (a = m) := by
  have hdiff : ((diff16 a m).toNat : Int) = ((a.toNat : Int) - m.toNat) % 65536 := toNat_diff16 a m
  have ha : a.toNat < 65536 := a.isLt
  have hm : m.toNat < 65536 := m.isLt
  rw [isZero16_eq, decide_eq_decide, ← BitVec.toNat_inj]
  omega

theorem topBit16_diff16 (a m : Word) :
    topBit16 (diff16 a m) = decide (((a.toNat : Int) - m.toNat) % 65536 ≥ 32768) := by
  rw [topBit16_eq, ← toNat_diff16, decide_eq_decide]
  omega

/-- The rule of a compare with A (R292 to R295). -/
theorem effect_compareA (m : State → Word) (hencode : encode i = bytes)
    (hexec : ∀ s, exec i s = .next (s.compareA (m s))) :
    Effect i bytes [.c, .n, .z] fun s t =>
      t.c = decide (s.a.toNat < (m s).toNat) ∧ t.z = decide (s.a = m s) ∧
        t.n = decide (((s.a.toNat : Int) - (m s).toNat) % 65536 ≥ 32768) :=
  effect_of_next _ hencode hexec (fun s => ⟨rfl, isZero16_diff16 s.a (m s), topBit16_diff16 s.a (m s)⟩)
    fun s => frame_compareA s (m s)

end

end Sys2Proof.Machine

open Sys2Proof Sys2Proof.Machine

/-- Settles O56: each writes the bitwise operation on A and its operand; C is not among what it touches. -/
theorem wordLogicSetsNZ : Obligations.WordLogicSetsNZ := by
  intro v
  have hand (a b : Word) (k : Nat) : (a &&& b).getLsbD k = (a.getLsbD k && b.getLsbD k) := BitVec.getLsbD_and
  have hor (a b : Word) (k : Nat) : (a ||| b).getLsbD k = (a.getLsbD k || b.getLsbD k) := BitVec.getLsbD_or
  have hxor (a b : Word) (k : Nat) : (a ^^^ b).getLsbD k = (a.getLsbD k != b.getLsbD k) := by
    rw [BitVec.getLsbD_xor, Bool.bne_eq_xor]
  refine ⟨?andImm, ?andMem, ?andX, ?andY, ?orImm, ?orMem, ?orX, ?orY, ?xorImm, ?xorMem, ?xorX, ?xorY⟩
  case andImm => exact effect_logic (fun _ => v) hand rfl fun _ => rfl
  case andMem => exact effect_logic (fun s => s.read16 s.i.toNat) hand rfl fun _ => rfl
  case andX => exact effect_logic State.x hand rfl fun _ => rfl
  case andY => exact effect_logic State.y hand rfl fun _ => rfl
  case orImm => exact effect_logic (fun _ => v) hor rfl fun _ => rfl
  case orMem => exact effect_logic (fun s => s.read16 s.i.toNat) hor rfl fun _ => rfl
  case orX => exact effect_logic State.x hor rfl fun _ => rfl
  case orY => exact effect_logic State.y hor rfl fun _ => rfl
  case xorImm => exact effect_logic (fun _ => v) hxor rfl fun _ => rfl
  case xorMem => exact effect_logic (fun s => s.read16 s.i.toNat) hxor rfl fun _ => rfl
  case xorX => exact effect_logic State.x hxor rfl fun _ => rfl
  case xorY => exact effect_logic State.y hxor rfl fun _ => rfl

/-- Settles O57: each adds its operand to A. -/
theorem wordAdditionsSetCNZ : Obligations.WordAdditionsSetCNZ := by
  refine fun v => ⟨?imm, ?mem, ?x, ?y⟩
  case imm => exact effect_addA (fun _ => v) rfl fun _ => rfl
  case mem => exact effect_addA (fun s => s.read16 s.i.toNat) rfl fun _ => rfl
  case x => exact effect_addA State.x rfl fun _ => rfl
  case y => exact effect_addA State.y rfl fun _ => rfl

/-- Settles O58: each subtracts its operand from A. -/
theorem wordSubtractionsSetCNZ : Obligations.WordSubtractionsSetCNZ := by
  refine fun v => ⟨?imm, ?mem, ?x, ?y⟩
  case imm => exact effect_subA (fun _ => v) rfl fun _ => rfl
  case mem => exact effect_subA (fun s => s.read16 s.i.toNat) rfl fun _ => rfl
  case x => exact effect_subA State.x rfl fun _ => rfl
  case y => exact effect_subA State.y rfl fun _ => rfl

/-- Settles O59: each sets the flags of the difference; A is not among what it touches. -/
theorem wordComparesSetCNZ : Obligations.WordComparesSetCNZ := by
  refine fun v => ⟨?imm, ?mem, ?x, ?y⟩
  case imm => exact effect_compareA (fun _ => v) rfl fun _ => rfl
  case mem => exact effect_compareA (fun s => s.read16 s.i.toNat) rfl fun _ => rfl
  case x => exact effect_compareA State.x rfl fun _ => rfl
  case y => exact effect_compareA State.y rfl fun _ => rfl

/-- Settles O60: the result and the bit moved out, each as a number; N and Z are the tests of the result. -/
theorem wordShiftsAndRotates : Obligations.WordShiftsAndRotates := by
  refine ⟨?shl, ?shr, ?rol, ?ror⟩
  case shl =>
    exact effect_shiftResult (fun s => shiftLeft16 s.a) (fun s => topBit16 s.a) rfl (fun _ => rfl) fun s =>
      ⟨toNat_shiftLeft16 s.a, toNat_topBit16 s.a, topBit16_eq _, isZero16_eq _⟩
  case shr =>
    exact effect_shiftResult (fun s => shiftRight16 s.a) (fun s => lowBit16 s.a) rfl (fun _ => rfl) fun s =>
      ⟨toNat_shiftRight16 s.a, toNat_lowBit16 s.a, topBit16_eq _, isZero16_eq _⟩
  case rol =>
    exact effect_shiftResult (fun s => rotateLeft16 s.a s.c) (fun s => topBit16 s.a) rfl (fun _ => rfl) fun s =>
      ⟨toNat_rotateLeft16 s.a s.c, toNat_topBit16 s.a, topBit16_eq _, isZero16_eq _⟩
  case ror =>
    exact effect_shiftResult (fun s => rotateRight16 s.a s.c) (fun s => lowBit16 s.a) rfl (fun _ => rfl) fun s =>
      ⟨toNat_rotateRight16 s.a s.c, toNat_lowBit16 s.a, topBit16_eq _, isZero16_eq _⟩

end

section
/-! Sprites (20_memory.md R85) as a list of cells to toggle, in row-major order: the draw toggles them one after
another, and no cell stands in the list twice. -/

namespace Sys2Proof.Machine

/-- A toggle (R82): the cell takes the other of its two values if the grid has it, and no other cell changes. -/
theorem getCell_setPixel (p : Params) (cells : List Host.Cell) (x y cx cy : Nat) :
    getCell p (setPixel p cells x y).2 cx cy =
      if cx = x ∧ cy = y ∧ x < p.width ∧ y < p.height then (if getCell p cells x y = 0 then p.pixelOn else 0)
      else getCell p cells cx cy := by
  rw [setPixel_snd, getCell_setPixelColor]

/-- Toggle the cells of a list one after another; the answer is the collision of the last. -/
def toggleCells (p : Params) (acc : Bool × List Host.Cell) (l : List (Nat × Nat)) : Bool × List Host.Cell :=
  l.foldl (fun acc c => setPixel p acc.2 c.1 c.2) acc

/-- The cells under the set bits of a sprite row, from column `x` to the right edge. -/
def columnCells (p : Params) (y : Nat) : List Bool → Nat → List (Nat × Nat)
  | [], _ => []
  | bit :: bits, x =>
    if x ≥ p.width then [] else (if bit then [(x, y)] else []) ++ columnCells p y bits (x + 1)

/-- The cells under the set bits of a sprite, from row `y` to the bottom edge. -/
def spriteCells (p : Params) (x : Nat) : List Byte → Nat → List (Nat × Nat)
  | [], _ => []
  | row :: rows, y =>
    if y ≥ p.height then [] else columnCells p y (pixelsOf row) x ++ spriteCells p x rows (y + 1)

theorem drawColumns_eq_toggleCells (p : Params) (y : Nat) (bits : List Bool) (x : Nat)
    (acc : Bool × List Host.Cell) :
    drawColumns p y bits x acc = toggleCells p acc (columnCells p y bits x) := by
  induction bits generalizing x acc with
  | nil => rfl
  | cons bit bits ih =>
    unfold drawColumns columnCells
    split
    · rfl
    · rw [ih]
      cases bit <;> rfl

theorem drawRows_eq_toggleCells (p : Params) (x : Nat) (rows : List Byte) (y : Nat) (acc : Bool × List Host.Cell) :
    drawRows p x rows y acc = toggleCells p acc (spriteCells p x rows y) := by
  induction rows generalizing y acc with
  | nil => rfl
  | cons row rows ih =>
    unfold drawRows spriteCells
    split
    · rfl
    · rw [ih, drawColumns_eq_toggleCells, toggleCells, toggleCells, toggleCells, List.foldl_append]

/-! ### Which cells are listed -/

theorem mem_columnCells {p : Params} {y : Nat} {bits : List Bool} {x : Nat} {c : Nat × Nat} :
    c ∈ columnCells p y bits x ↔ ∃ j, bits[j]? = some true ∧ x + j < p.width ∧ c = (x + j, y) := by
  induction bits generalizing x with
  | nil => simp [columnCells]
  | cons bit bits ih =>
    unfold columnCells
    split
    next hedge =>
      simp only [List.not_mem_nil, false_iff]
      rintro ⟨j, -, hj, -⟩
      omega
    next hedge =>
      rw [List.mem_append, ih]
      constructor
      · rintro (hhead | ⟨j, hbit, hj, rfl⟩)
        · cases bit with
          | false => simp at hhead
          | true => exact ⟨0, rfl, not_le.mp hedge, by simpa using hhead⟩
        · exact ⟨j + 1, by simpa using hbit, by omega, by rw [Nat.add_right_comm, Nat.add_assoc]⟩
      · rintro ⟨j, hbit, hj, rfl⟩
        cases j with
        | zero =>
          obtain rfl : bit = true := by simpa using hbit
          exact .inl (by simp)
        | succ j => exact .inr ⟨j, by simpa using hbit, by omega, by rw [Nat.add_right_comm, Nat.add_assoc]⟩

theorem getElem?_pixelsOf (v : Byte) (j : Nat) : (pixelsOf v)[j]? = some true ↔ j < 8 ∧ v.getLsbD (7 - j) = true := by
  rw [pixelsOf, List.getElem?_map]
  by_cases hj : j < 8
  · simp [hj]
  · simp [hj]

theorem mem_spriteCells {p : Params} {x : Nat} {rows : List Byte} {y : Nat} {c : Nat × Nat} :
    c ∈ spriteCells p x rows y ↔ ∃ i j, i < rows.length ∧ j < 8 ∧ (rows.getD i 0).getLsbD (7 - j) = true ∧
      x + j < p.width ∧ y + i < p.height ∧ c = (x + j, y + i) := by
  induction rows generalizing y with
  | nil => simp [spriteCells]
  | cons row rows ih =>
    unfold spriteCells
    split
    next hedge =>
      simp only [List.not_mem_nil, false_iff]
      rintro ⟨i, j, -, -, -, -, hi, -⟩
      omega
    next hedge =>
      rw [List.mem_append, mem_columnCells, ih]
      constructor
      · rintro (⟨j, hbit, hj, rfl⟩ | ⟨i, j, hi, hj, hbit, hx, hy, rfl⟩)
        · obtain ⟨hj8, hbit⟩ := (getElem?_pixelsOf row j).mp hbit
          exact ⟨0, j, Nat.zero_lt_succ _, hj8, hbit, hj, not_le.mp hedge, rfl⟩
        · exact ⟨i + 1, j, Nat.succ_lt_succ hi, hj, hbit, hx, by omega, by rw [Nat.add_right_comm, Nat.add_assoc y]⟩
      · rintro ⟨i, j, hi, hj, hbit, hx, hy, rfl⟩
        cases i with
        | zero => exact .inl ⟨j, (getElem?_pixelsOf row j).mpr ⟨hj, hbit⟩, hx, rfl⟩
        | succ i =>
          exact .inr ⟨i, j, Nat.lt_of_succ_lt_succ hi, hj, hbit, hx, by omega,
            by rw [Nat.add_right_comm, Nat.add_assoc y]⟩

theorem mem_spriteCells_iff_spriteBit {p : Params} {bytes : List Byte} {x y : Nat} {c : Nat × Nat} :
    c ∈ spriteCells p (x % p.width) bytes (y % p.height) ↔
      ∃ i j, SpriteBit p bytes x y i j ∧ c = (x % p.width + j, y % p.height + i) := by
  simp only [mem_spriteCells, SpriteBit, and_assoc]

/-! ### In which order -/

/-- Row-major order. -/
def RowMajor (c d : Nat × Nat) : Prop :=
  c.2 < d.2 ∨ c.2 = d.2 ∧ c.1 < d.1

theorem pairwise_columnCells (p : Params) (y : Nat) (bits : List Bool) (x : Nat) :
    (columnCells p y bits x).Pairwise RowMajor := by
  induction bits generalizing x with
  | nil => exact .nil
  | cons bit bits ih =>
    unfold columnCells
    split
    · exact .nil
    · cases bit with
      | false => exact ih (x + 1)
      | true =>
        refine List.pairwise_cons.mpr ⟨fun d hd => ?_, ih (x + 1)⟩
        obtain ⟨j, -, -, rfl⟩ := mem_columnCells.mp hd
        exact .inr ⟨rfl, by show x < x + 1 + j; omega⟩

theorem pairwise_spriteCells (p : Params) (x : Nat) (rows : List Byte) (y : Nat) :
    (spriteCells p x rows y).Pairwise RowMajor := by
  induction rows generalizing y with
  | nil => exact .nil
  | cons row rows ih =>
    unfold spriteCells
    split
    · exact .nil
    · refine List.pairwise_append.mpr ⟨pairwise_columnCells .., ih (y + 1), fun c hc d hd => ?_⟩
      obtain ⟨j, -, -, rfl⟩ := mem_columnCells.mp hc
      obtain ⟨i, k, -, -, -, -, -, rfl⟩ := mem_spriteCells.mp hd
      exact .inl (by show y < y + 1 + i; omega)

theorem nodup_of_rowMajor {l : List (Nat × Nat)} (h : l.Pairwise RowMajor) : l.Nodup := by
  refine h.imp fun {c d} hcd heq => ?_
  subst heq
  rcases hcd with h | ⟨-, h⟩ <;> exact Nat.lt_irrefl _ h

/-! ### What toggling a list does -/

/-- The cells of a list are in the grid. -/
def InGrid (p : Params) (l : List (Nat × Nat)) : Prop :=
  ∀ c ∈ l, c.1 < p.width ∧ c.2 < p.height

theorem inGrid_spriteCells (p : Params) (x : Nat) (rows : List Byte) (y : Nat) : InGrid p (spriteCells p x rows y) := by
  intro c hc
  obtain ⟨i, j, -, -, -, hx, hy, rfl⟩ := mem_spriteCells.mp hc
  exact ⟨hx, hy⟩

/-- Each cell listed is toggled once, and no other changes. -/
theorem getCell_toggleCells {p : Params} {l : List (Nat × Nat)} (hnodup : l.Nodup) (hgrid : InGrid p l)
    (acc : Bool × List Host.Cell) (cx cy : Nat) :
    getCell p (toggleCells p acc l).2 cx cy =
      if (cx, cy) ∈ l then (if getCell p acc.2 cx cy = 0 then p.pixelOn else 0) else getCell p acc.2 cx cy := by
  induction l generalizing acc with
  | nil => rfl
  | cons c l ih =>
    obtain ⟨hc, hnodup⟩ := List.nodup_cons.mp hnodup
    have hin : c.1 < p.width ∧ c.2 < p.height := hgrid c List.mem_cons_self
    have htail : InGrid p l := fun d hd => hgrid d (List.mem_cons_of_mem c hd)
    have hfold : toggleCells p acc (c :: l) = toggleCells p (setPixel p acc.2 c.1 c.2) l := rfl
    rw [hfold, ih hnodup htail, getCell_setPixel]
    by_cases heq : (cx, cy) = c
    · subst heq
      simp [hc, hin]
    · have hne : ¬(cx = c.1 ∧ cy = c.2 ∧ c.1 < p.width ∧ c.2 < p.height) := fun h => heq (Prod.ext h.1 h.2.1)
      simp [heq, hne]

/-- The answer is whether the last cell listed was on before the first toggle: no toggle before its own touches it. -/
theorem toggleCells_concat_fst {p : Params} {l : List (Nat × Nat)} {c : Nat × Nat} (hnodup : (l ++ [c]).Nodup)
    (hgrid : InGrid p (l ++ [c])) (acc : Bool × List Host.Cell) :
    (toggleCells p acc (l ++ [c])).1 = (getCell p acc.2 c.1 c.2 != 0) := by
  obtain ⟨hl, -, hapart⟩ := List.nodup_append.mp hnodup
  have hc : c ∉ l := fun h => hapart c h c (List.mem_singleton_self c) rfl
  have hin : c.1 < p.width ∧ c.2 < p.height := hgrid c (by simp)
  have hgridl : InGrid p l := fun d hd => hgrid d (List.mem_append_left _ hd)
  have hfold : toggleCells p acc (l ++ [c]) = setPixel p (toggleCells p acc l).2 c.1 c.2 := by
    rw [toggleCells, List.foldl_append]
    rfl
  rw [hfold, setPixel_inside hin.1 hin.2, getCell_toggleCells hl hgridl, if_neg hc]

end Sys2Proof.Machine

open Sys2Proof Sys2Proof.Machine

/-- Settles O29: the cells toggled are those listed, each once, and they are those of the set bits. -/
theorem spriteTogglesItsSetBits : Obligations.SpriteTogglesItsSetBits := by
  intro p d bytes x y cx cy _ _
  have hlist := mem_spriteCells_iff_spriteBit (p := p) (bytes := bytes) (x := x) (y := y) (c := (cx, cy))
  simp only [Prod.mk.injEq] at hlist
  rw [drawSprite, drawRows_eq_toggleCells,
    getCell_toggleCells (nodup_of_rowMajor (pairwise_spriteCells ..)) (inGrid_spriteCells _ _ _ _)]
  exact ⟨fun h => if_pos (hlist.mpr h), fun h => if_neg (mt hlist.mp h)⟩

/-- Settles O30: the last cell listed is the greatest in row-major order. -/
theorem spriteReportsTheLastToggle : Obligations.SpriteReportsTheLastToggle := by
  intro p d bytes x y _ _
  have hmem {c : Nat × Nat} := mem_spriteCells_iff_spriteBit (p := p) (bytes := bytes) (x := x) (y := y) (c := c)
  have horder := pairwise_spriteCells p (x % p.width) bytes (y % p.height)
  have hgrid := inGrid_spriteCells p (x % p.width) bytes (y % p.height)
  rw [drawSprite, drawRows_eq_toggleCells]
  generalize spriteCells p (x % p.width) bytes (y % p.height) = l at hmem horder hgrid
  rcases List.eq_nil_or_concat' l with rfl | ⟨l, c, rfl⟩
  · refine iff_of_false Bool.false_ne_true ?_
    rintro ⟨i, j, hbit, -⟩
    exact List.not_mem_nil (hmem.mpr ⟨i, j, hbit, rfl⟩)
  · obtain ⟨i, j, hbit, rfl⟩ := hmem.mp (List.mem_append_right l (List.mem_singleton_self c))
    obtain ⟨-, -, hconcat⟩ := List.pairwise_append.mp horder
    have hlast (i' j' : Nat) (h : SpriteBit p bytes x y i' j') : i' < i ∨ i' = i ∧ j' ≤ j := by
      rcases List.mem_append.mp (hmem.mpr ⟨i', j', h, rfl⟩) with hbefore | hsame
      · have hlt : RowMajor _ _ := hconcat _ hbefore _ (List.mem_singleton_self _)
        simp only [RowMajor] at hlt
        omega
      · simp only [List.mem_singleton, Prod.mk.injEq] at hsame
        omega
    rw [toggleCells_concat_fst (nodup_of_rowMajor horder) hgrid, bne_iff_ne]
    refine ⟨fun hon => ⟨i, j, hbit, hon, hlast⟩, ?_⟩
    rintro ⟨i', j', hbit', hon, hmax⟩
    have hle := hlast i' j' hbit'
    have hge := hmax i j hbit
    obtain ⟨rfl, rfl⟩ : i' = i ∧ j' = j := by omega
    exact hon

end
